-- ==== Sys2Proof/Word.lean ====
section
/-! DEFINITION. The bytes and 16-bit words of the block (R14 of 00_scope.md, R20, R25 of 10_state.md) and how a word is put together from two bytes and taken apart (R22 of 10_state.md). -/

namespace Sys2Proof

/-- An 8-bit value: a register, a memory byte, a port datum. -/
abbrev Byte := BitVec 8

/-- A 16-bit value: an address, a register pair, PC, SP. -/
abbrev Word := BitVec 16

/-- `hi:lo`, the concatenation of R14: `hi` in the upper eight bits. -/
def Word.ofBytes (hi lo : Byte) : Word := hi ++ lo

/-- `w[15:8]`. -/
def Word.hi (w : Word) : Byte := w.extractLsb' 8 8

/-- `w[7:0]`. -/
def Word.lo (w : Word) : Byte := w.extractLsb' 0 8

end Sys2Proof
end

