-- ==== Sys2Proof/Syntax.lean ====
section
/-! DEFINITION. The whole syntax: one constructor of `Instr` for each of the 256 rows of spec/opcode_table.json, those with operand bytes first (Lean's compiler gives the low tags to the first constructors and needs one for each constructor with a field), otherwise in the table's order (R78 of 30_encoding.md), and the operand names of R73 to R75. The `mk…` functions name the rows of one kind at once: a kind and its operands give the row. -/

namespace Sys2Proof

/-- The seven 8-bit registers (R20 of 10_state.md), in the order of their codes (R73 of 30_encoding.md). -/
inductive Reg where
  | b | c | d | e | h | l | a
  deriving DecidableEq, Repr

/-- The three register pairs (R22 of 10_state.md). -/
inductive RegPair where
  | bc | de | hl
  deriving DecidableEq, Repr

/-- The 16-bit operand of LXI, INX, DCX, DAD: a pair or SP (R74 of 30_encoding.md). -/
inductive Rp where
  | bc | de | hl | sp
  deriving DecidableEq, Repr

/-- The address pair of LDAX and STAX (R74: bit 4 alone). -/
inductive IndPair where
  | bc | de
  deriving DecidableEq, Repr

/-- The eight conditions (R75). -/
inductive Cond where
  | nz | z | nc | c | po | pe | p | m
  deriving DecidableEq, Repr

/-- The eight ALU operations (R72). -/
inductive AluOp where
  | add | adc | sub | sbb | ana | xra | ora | cmp
  deriving DecidableEq, Repr

/-- A register-coded operand (R73): a register, or code 110, the memory byte at HL (R23 of 10_state.md). -/
inductive Src where
  | reg (r : Reg)
  | m
  deriving DecidableEq, Repr

/-- One constructor per row of spec/opcode_table.json. `d8`, `p8`: byte 2; `d16`, `a16`: byte 3 : byte 2 (R76). -/
inductive Instr where
  | lxiB (d16 : Word)
  | mviB (d8 : Byte)
  | mviC (d8 : Byte)
  | lxiD (d16 : Word)
  | mviD (d8 : Byte)
  | mviE (d8 : Byte)
  | lxiH (d16 : Word)
  | shld (a16 : Word)
  | mviH (d8 : Byte)
  | lhld (a16 : Word)
  | mviL (d8 : Byte)
  | lxiSp (d16 : Word)
  | sta (a16 : Word)
  | mviM (d8 : Byte)
  | lda (a16 : Word)
  | mviA (d8 : Byte)
  | jnz (a16 : Word)
  | jmp (a16 : Word)
  | cnz (a16 : Word)
  | adi (d8 : Byte)
  | jz (a16 : Word)
  | cz (a16 : Word)
  | call (a16 : Word)
  | aci (d8 : Byte)
  | jnc (a16 : Word)
  | outPort (p8 : Byte)
  | cnc (a16 : Word)
  | sui (d8 : Byte)
  | jc (a16 : Word)
  | inPort (p8 : Byte)
  | cc (a16 : Word)
  | sbi (d8 : Byte)
  | jpo (a16 : Word)
  | cpo (a16 : Word)
  | ani (d8 : Byte)
  | jpe (a16 : Word)
  | cpe (a16 : Word)
  | xri (d8 : Byte)
  | jp (a16 : Word)
  | cp (a16 : Word)
  | ori (d8 : Byte)
  | jm (a16 : Word)
  | cm (a16 : Word)
  | cpi (d8 : Byte)
  | nop
  | staxB
  | inxB
  | inrB
  | dcrB
  | rlc
  | unimplemented08
  | dadB
  | ldaxB
  | dcxB
  | inrC
  | dcrC
  | rrc
  | unimplemented10
  | staxD
  | inxD
  | inrD
  | dcrD
  | ral
  | unimplemented18
  | dadD
  | ldaxD
  | dcxD
  | inrE
  | dcrE
  | rar
  | unimplemented20
  | inxH
  | inrH
  | dcrH
  | daa
  | unimplemented28
  | dadH
  | dcxH
  | inrL
  | dcrL
  | cma
  | unimplemented30
  | inxSp
  | inrM
  | dcrM
  | stc
  | unimplemented38
  | dadSp
  | dcxSp
  | inrA
  | dcrA
  | cmc
  | movBB
  | movBC
  | movBD
  | movBE
  | movBH
  | movBL
  | movBM
  | movBA
  | movCB
  | movCC
  | movCD
  | movCE
  | movCH
  | movCL
  | movCM
  | movCA
  | movDB
  | movDC
  | movDD
  | movDE
  | movDH
  | movDL
  | movDM
  | movDA
  | movEB
  | movEC
  | movED
  | movEE
  | movEH
  | movEL
  | movEM
  | movEA
  | movHB
  | movHC
  | movHD
  | movHE
  | movHH
  | movHL
  | movHM
  | movHA
  | movLB
  | movLC
  | movLD
  | movLE
  | movLH
  | movLL
  | movLM
  | movLA
  | movMB
  | movMC
  | movMD
  | movME
  | movMH
  | movML
  | hlt
  | movMA
  | movAB
  | movAC
  | movAD
  | movAE
  | movAH
  | movAL
  | movAM
  | movAA
  | addB
  | addC
  | addD
  | addE
  | addH
  | addL
  | addM
  | addA
  | adcB
  | adcC
  | adcD
  | adcE
  | adcH
  | adcL
  | adcM
  | adcA
  | subB
  | subC
  | subD
  | subE
  | subH
  | subL
  | subM
  | subA
  | sbbB
  | sbbC
  | sbbD
  | sbbE
  | sbbH
  | sbbL
  | sbbM
  | sbbA
  | anaB
  | anaC
  | anaD
  | anaE
  | anaH
  | anaL
  | anaM
  | anaA
  | xraB
  | xraC
  | xraD
  | xraE
  | xraH
  | xraL
  | xraM
  | xraA
  | oraB
  | oraC
  | oraD
  | oraE
  | oraH
  | oraL
  | oraM
  | oraA
  | cmpB
  | cmpC
  | cmpD
  | cmpE
  | cmpH
  | cmpL
  | cmpM
  | cmpA
  | rnz
  | popB
  | pushB
  | rst0
  | rz
  | ret
  | unimplementedCB
  | rst1
  | rnc
  | popD
  | pushD
  | rst2
  | rc
  | unimplementedD9
  | unimplementedDD
  | rst3
  | rpo
  | popH
  | xthl
  | pushH
  | rst4
  | rpe
  | pchl
  | xchg
  | unimplementedED
  | rst5
  | rp
  | popPsw
  | di
  | pushPsw
  | rst6
  | rm
  | sphl
  | ei
  | unimplementedFD
  | rst7
  deriving DecidableEq, Repr

/-- MOV r1,r2 (R100). -/
def Instr.mkMov : Reg → Reg → Instr
  | .b, .b => .movBB
  | .b, .c => .movBC
  | .b, .d => .movBD
  | .b, .e => .movBE
  | .b, .h => .movBH
  | .b, .l => .movBL
  | .b, .a => .movBA
  | .c, .b => .movCB
  | .c, .c => .movCC
  | .c, .d => .movCD
  | .c, .e => .movCE
  | .c, .h => .movCH
  | .c, .l => .movCL
  | .c, .a => .movCA
  | .d, .b => .movDB
  | .d, .c => .movDC
  | .d, .d => .movDD
  | .d, .e => .movDE
  | .d, .h => .movDH
  | .d, .l => .movDL
  | .d, .a => .movDA
  | .e, .b => .movEB
  | .e, .c => .movEC
  | .e, .d => .movED
  | .e, .e => .movEE
  | .e, .h => .movEH
  | .e, .l => .movEL
  | .e, .a => .movEA
  | .h, .b => .movHB
  | .h, .c => .movHC
  | .h, .d => .movHD
  | .h, .e => .movHE
  | .h, .h => .movHH
  | .h, .l => .movHL
  | .h, .a => .movHA
  | .l, .b => .movLB
  | .l, .c => .movLC
  | .l, .d => .movLD
  | .l, .e => .movLE
  | .l, .h => .movLH
  | .l, .l => .movLL
  | .l, .a => .movLA
  | .a, .b => .movAB
  | .a, .c => .movAC
  | .a, .d => .movAD
  | .a, .e => .movAE
  | .a, .h => .movAH
  | .a, .l => .movAL
  | .a, .a => .movAA

/-- MOV r,M (R101). -/
def Instr.mkMovFromM : Reg → Instr
  | .b => .movBM
  | .c => .movCM
  | .d => .movDM
  | .e => .movEM
  | .h => .movHM
  | .l => .movLM
  | .a => .movAM

/-- MOV M,r (R102). -/
def Instr.mkMovToM : Reg → Instr
  | .b => .movMB
  | .c => .movMC
  | .d => .movMD
  | .e => .movME
  | .h => .movMH
  | .l => .movML
  | .a => .movMA

/-- MVI r,d8 (R103) and MVI M,d8 (R104). -/
def Instr.mkMvi (x : Src) (d8 : Byte) : Instr :=
  match x with
  | .reg .b => .mviB d8
  | .reg .c => .mviC d8
  | .reg .d => .mviD d8
  | .reg .e => .mviE d8
  | .reg .h => .mviH d8
  | .reg .l => .mviL d8
  | .reg .a => .mviA d8
  | .m => .mviM d8

/-- LXI rp,d16 (R105). -/
def Instr.mkLxi (x : Rp) (d16 : Word) : Instr :=
  match x with
  | .bc => .lxiB d16
  | .de => .lxiD d16
  | .hl => .lxiH d16
  | .sp => .lxiSp d16

/-- LDAX rp (R110). -/
def Instr.mkLdax : IndPair → Instr
  | .bc => .ldaxB
  | .de => .ldaxD

/-- STAX rp (R111). -/
def Instr.mkStax : IndPair → Instr
  | .bc => .staxB
  | .de => .staxD

/-- INR r (R132) and INR M (R133). -/
def Instr.mkInr : Src → Instr
  | .reg .b => .inrB
  | .reg .c => .inrC
  | .reg .d => .inrD
  | .reg .e => .inrE
  | .reg .h => .inrH
  | .reg .l => .inrL
  | .reg .a => .inrA
  | .m => .inrM

/-- DCR r (R134) and DCR M (R135). -/
def Instr.mkDcr : Src → Instr
  | .reg .b => .dcrB
  | .reg .c => .dcrC
  | .reg .d => .dcrD
  | .reg .e => .dcrE
  | .reg .h => .dcrH
  | .reg .l => .dcrL
  | .reg .a => .dcrA
  | .m => .dcrM

/-- INX rp (R136). -/
def Instr.mkInx : Rp → Instr
  | .bc => .inxB
  | .de => .inxD
  | .hl => .inxH
  | .sp => .inxSp

/-- DCX rp (R137). -/
def Instr.mkDcx : Rp → Instr
  | .bc => .dcxB
  | .de => .dcxD
  | .hl => .dcxH
  | .sp => .dcxSp

/-- DAD rp (R138). -/
def Instr.mkDad : Rp → Instr
  | .bc => .dadB
  | .de => .dadD
  | .hl => .dadH
  | .sp => .dadSp

/-- The register and memory forms of ADD, ADC, SUB, SBB (R120 to R130), ANA, XRA, ORA and CMP (R150 to R160). -/
def Instr.mkAlu : AluOp → Src → Instr
  | .add, .reg .b => .addB
  | .add, .reg .c => .addC
  | .add, .reg .d => .addD
  | .add, .reg .e => .addE
  | .add, .reg .h => .addH
  | .add, .reg .l => .addL
  | .add, .reg .a => .addA
  | .add, .m => .addM
  | .adc, .reg .b => .adcB
  | .adc, .reg .c => .adcC
  | .adc, .reg .d => .adcD
  | .adc, .reg .e => .adcE
  | .adc, .reg .h => .adcH
  | .adc, .reg .l => .adcL
  | .adc, .reg .a => .adcA
  | .adc, .m => .adcM
  | .sub, .reg .b => .subB
  | .sub, .reg .c => .subC
  | .sub, .reg .d => .subD
  | .sub, .reg .e => .subE
  | .sub, .reg .h => .subH
  | .sub, .reg .l => .subL
  | .sub, .reg .a => .subA
  | .sub, .m => .subM
  | .sbb, .reg .b => .sbbB
  | .sbb, .reg .c => .sbbC
  | .sbb, .reg .d => .sbbD
  | .sbb, .reg .e => .sbbE
  | .sbb, .reg .h => .sbbH
  | .sbb, .reg .l => .sbbL
  | .sbb, .reg .a => .sbbA
  | .sbb, .m => .sbbM
  | .ana, .reg .b => .anaB
  | .ana, .reg .c => .anaC
  | .ana, .reg .d => .anaD
  | .ana, .reg .e => .anaE
  | .ana, .reg .h => .anaH
  | .ana, .reg .l => .anaL
  | .ana, .reg .a => .anaA
  | .ana, .m => .anaM
  | .xra, .reg .b => .xraB
  | .xra, .reg .c => .xraC
  | .xra, .reg .d => .xraD
  | .xra, .reg .e => .xraE
  | .xra, .reg .h => .xraH
  | .xra, .reg .l => .xraL
  | .xra, .reg .a => .xraA
  | .xra, .m => .xraM
  | .ora, .reg .b => .oraB
  | .ora, .reg .c => .oraC
  | .ora, .reg .d => .oraD
  | .ora, .reg .e => .oraE
  | .ora, .reg .h => .oraH
  | .ora, .reg .l => .oraL
  | .ora, .reg .a => .oraA
  | .ora, .m => .oraM
  | .cmp, .reg .b => .cmpB
  | .cmp, .reg .c => .cmpC
  | .cmp, .reg .d => .cmpD
  | .cmp, .reg .e => .cmpE
  | .cmp, .reg .h => .cmpH
  | .cmp, .reg .l => .cmpL
  | .cmp, .reg .a => .cmpA
  | .cmp, .m => .cmpM

/-- The immediate forms ADI, ACI, SUI, SBI (R122 to R131), ANI, XRI, ORI, CPI (R152 to R161). -/
def Instr.mkAluImm (x : AluOp) (d8 : Byte) : Instr :=
  match x with
  | .add => .adi d8
  | .adc => .aci d8
  | .sub => .sui d8
  | .sbb => .sbi d8
  | .ana => .ani d8
  | .xra => .xri d8
  | .ora => .ori d8
  | .cmp => .cpi d8

/-- The conditional jumps (R181 to R188). -/
def Instr.mkJcc (x : Cond) (a16 : Word) : Instr :=
  match x with
  | .nz => .jnz a16
  | .z => .jz a16
  | .nc => .jnc a16
  | .c => .jc a16
  | .po => .jpo a16
  | .pe => .jpe a16
  | .p => .jp a16
  | .m => .jm a16

/-- The conditional calls (R191 to R198). -/
def Instr.mkCcc (x : Cond) (a16 : Word) : Instr :=
  match x with
  | .nz => .cnz a16
  | .z => .cz a16
  | .nc => .cnc a16
  | .c => .cc a16
  | .po => .cpo a16
  | .pe => .cpe a16
  | .p => .cp a16
  | .m => .cm a16

/-- The conditional returns (R201 to R208). -/
def Instr.mkRcc : Cond → Instr
  | .nz => .rnz
  | .z => .rz
  | .nc => .rnc
  | .c => .rc
  | .po => .rpo
  | .pe => .rpe
  | .p => .rp
  | .m => .rm

/-- PUSH rp (R230). -/
def Instr.mkPush : RegPair → Instr
  | .bc => .pushB
  | .de => .pushD
  | .hl => .pushH

/-- POP rp (R232). -/
def Instr.mkPop : RegPair → Instr
  | .bc => .popB
  | .de => .popD
  | .hl => .popH

/-- RST n (R209). -/
def Instr.mkRst : Fin 8 → Instr
  | 0 => .rst0
  | 1 => .rst1
  | 2 => .rst2
  | 3 => .rst3
  | 4 => .rst4
  | 5 => .rst5
  | 6 => .rst6
  | 7 => .rst7

end Sys2Proof
end

