-- ==== Sys2Proof/WellFormed.lean ====
section
/-! DEFINITION. Which terms of `Instr` are instructions. Operand widths are in the types; the one check left is R80 of 30_encoding.md: each of the 256 opcode values is either an instruction with a rule or one of the unimplemented opcodes (R79), and the latter are no instructions. -/

namespace Sys2Proof

/-- The opcode byte of a row that R79 lists as unimplemented, `none` for every other row. -/
def Instr.unimplementedByte : Instr → Option Byte
  | .unimplemented08 => some 0x08#8
  | .unimplemented10 => some 0x10#8
  | .unimplemented18 => some 0x18#8
  | .unimplemented20 => some 0x20#8
  | .unimplemented28 => some 0x28#8
  | .unimplemented30 => some 0x30#8
  | .unimplemented38 => some 0x38#8
  | .unimplementedCB => some 0xCB#8
  | .unimplementedD9 => some 0xD9#8
  | .unimplementedDD => some 0xDD#8
  | .unimplementedED => some 0xED#8
  | .unimplementedFD => some 0xFD#8
  | _ => none

/-- The check of R80: not one of the twelve rows without an instruction. -/
def Instr.wellFormed (i : Instr) : Bool := i.unimplementedByte.isNone

end Sys2Proof
end

