-- ==== Sys2Proof/Decode.lean ====
section
/-! DEFINITION. Decoding and encoding (30_encoding.md). The decoder reads the bit patterns of R77; the encoder is written row by row from the opcode map of R78, so that the two are independent readings of the spec. -/

namespace Sys2Proof

/-- `op[hi:lo]` of an opcode byte as a number, `width` bits from bit `lo` (R72). -/
def opField (op : Byte) (lo width : Nat) : Nat := (op.extractLsb' lo width).toNat

/-- The register codes of R73. -/
def srcOfCode (code : Nat) : Src :=
  match code with
  | 0 => .reg .b
  | 1 => .reg .c
  | 2 => .reg .d
  | 3 => .reg .e
  | 4 => .reg .h
  | 5 => .reg .l
  | 6 => .m
  | _ => .reg .a

/-- The pair codes of R74, as LXI, INX, DCX and DAD read them. -/
def rpOfCode (code : Nat) : Rp :=
  match code with
  | 0 => .bc
  | 1 => .de
  | 2 => .hl
  | _ => .sp

/-- The condition codes of R75. -/
def condOfCode (code : Nat) : Cond :=
  match code with
  | 0 => .nz
  | 1 => .z
  | 2 => .nc
  | 3 => .c
  | 4 => .po
  | 5 => .pe
  | 6 => .p
  | _ => .m

/-- The ALU operation codes of R72. -/
def aluOfCode (code : Nat) : AluOp :=
  match code with
  | 0 => .add
  | 1 => .adc
  | 2 => .sub
  | 3 => .sbb
  | 4 => .ana
  | 5 => .xra
  | 6 => .ora
  | _ => .cmp

/-- The restart numbers of R72. -/
def rstOfCode (code : Nat) : Fin 8 := ⟨code % 8, Nat.mod_lt _ (by decide)⟩

/-- Group 00 (R72, R77): `y` is bits 5:3, `z` bits 2:0; the pair code is `y / 2`. -/
def decodeGroup0 (y z : Nat) (d8 : Byte) (d16 : Word) : Instr :=
  match z with
  | 0 =>
    match y with
    | 0 => .nop
    | 1 => .unimplemented08
    | 2 => .unimplemented10
    | 3 => .unimplemented18
    | 4 => .unimplemented20
    | 5 => .unimplemented28
    | 6 => .unimplemented30
    | _ => .unimplemented38
  | 1 => if y % 2 = 0 then .mkLxi (rpOfCode (y / 2)) d16 else .mkDad (rpOfCode (y / 2))
  | 2 =>
    match y with
    | 0 => .mkStax .bc
    | 1 => .mkLdax .bc
    | 2 => .mkStax .de
    | 3 => .mkLdax .de
    | 4 => .shld d16
    | 5 => .lhld d16
    | 6 => .sta d16
    | _ => .lda d16
  | 3 => if y % 2 = 0 then .mkInx (rpOfCode (y / 2)) else .mkDcx (rpOfCode (y / 2))
  | 4 => .mkInr (srcOfCode y)
  | 5 => .mkDcr (srcOfCode y)
  | 6 => .mkMvi (srcOfCode y) d8
  | _ =>
    match y with
    | 0 => .rlc
    | 1 => .rrc
    | 2 => .ral
    | 3 => .rar
    | 4 => .daa
    | 5 => .cma
    | 6 => .stc
    | _ => .cmc

/-- Group 01 (R77): MOV, with HLT in the place of "MOV M,M" (R85). -/
def decodeGroup1 (y z : Nat) : Instr :=
  match srcOfCode y, srcOfCode z with
  | .reg dst, .reg src => .mkMov dst src
  | .reg dst, .m => .mkMovFromM dst
  | .m, .reg src => .mkMovToM src
  | .m, .m => .hlt

/-- Group 11 (R72, R77): `y` is bits 5:3, `z` bits 2:0. -/
def decodeGroup3 (y z : Nat) (d8 : Byte) (d16 : Word) : Instr :=
  match z with
  | 0 => .mkRcc (condOfCode y)
  | 1 =>
    match y with
    | 0 => .mkPop .bc
    | 1 => .ret
    | 2 => .mkPop .de
    | 3 => .unimplementedD9
    | 4 => .mkPop .hl
    | 5 => .pchl
    | 6 => .popPsw
    | _ => .sphl
  | 2 => .mkJcc (condOfCode y) d16
  | 3 =>
    match y with
    | 0 => .jmp d16
    | 1 => .unimplementedCB
    | 2 => .outPort d8
    | 3 => .inPort d8
    | 4 => .xthl
    | 5 => .xchg
    | 6 => .di
    | _ => .ei
  | 4 => .mkCcc (condOfCode y) d16
  | 5 =>
    match y with
    | 0 => .mkPush .bc
    | 1 => .call d16
    | 2 => .mkPush .de
    | 3 => .unimplementedDD
    | 4 => .mkPush .hl
    | 5 => .unimplementedED
    | 6 => .pushPsw
    | _ => .unimplementedFD
  | 6 => .mkAluImm (aluOfCode y) d8
  | _ => .mkRst (rstOfCode y)

/-- The total map from the opcode byte and the two bytes after it to a row (R70, R77, R80). `b2` and
`b3` reach operands only (R81); the 16-bit operand is `b3:b2` (R76). -/
def decodeOp (op b2 b3 : Byte) : Instr :=
  match opField op 6 2 with
  | 0 => decodeGroup0 (opField op 3 3) (opField op 0 3) b2 (Word.ofBytes b3 b2)
  | 1 => decodeGroup1 (opField op 3 3) (opField op 0 3)
  | 2 => .mkAlu (aluOfCode (opField op 3 3)) (srcOfCode (opField op 0 3))
  | _ => decodeGroup3 (opField op 3 3) (opField op 0 3) b2 (Word.ofBytes b3 b2)

/-- The length of an instruction from its opcode alone (R71, R81): format F3 for LXI, SHLD, LHLD, STA,
LDA, JMP, Jcc, CALL, Ccc; F2 for MVI, the immediate ALU forms, IN, OUT; F1 for the rest. An
unimplemented opcode has no length (C10); 1 stands for it. -/
def opLength (op : Byte) : Nat :=
  let y := opField op 3 3
  let z := opField op 0 3
  match opField op 6 2 with
  | 0 => if z = 6 then 2 else if (z = 1 ∧ y % 2 = 0) ∨ (z = 2 ∧ 4 ≤ y) then 3 else 1
  | 1 => 1
  | 2 => 1
  | _ =>
    if z = 2 ∨ z = 4 ∨ (z = 3 ∧ y = 0) ∨ (z = 5 ∧ y = 1) then 3
    else if z = 6 ∨ (z = 3 ∧ (y = 2 ∨ y = 3)) then 2
    else 1

/-- The condition a conditional opcode names (R75, R77): `11ccc010`, `11ccc100`, `11ccc000`. -/
def opCond (op : Byte) : Option Cond :=
  let z := opField op 0 3
  if opField op 6 2 = 3 ∧ (z = 0 ∨ z = 2 ∨ z = 4) then some (condOfCode (opField op 3 3)) else none

/-- Why a byte sequence holds no instruction. (A step never meets either: it fetches three bytes, R70.) -/
inductive DecodeError where
  /-- There is no opcode byte. -/
  | noBytes
  /-- The opcode demands `need` bytes and only `have_` are there (R71). -/
  | truncated (opcode : Byte) (need have_ : Nat)
  deriving DecidableEq, Repr

/-- The first instruction of a byte sequence and the bytes after it. An unimplemented opcode gives its
own row (R80: "a total mapping from all 256 opcode values"). -/
def decode (bytes : List Byte) : Except DecodeError (Instr × List Byte) :=
  match bytes with
  | [] => .error .noBytes
  | op :: rest =>
    if bytes.length < opLength op then .error (.truncated op (opLength op) bytes.length)
    else .ok (decodeOp op (rest.getD 0 0) (rest.getD 1 0), bytes.drop (opLength op))

/-- The bytes of a row (R71, R78): the opcode, then `d8`, or the low and the high byte of `d16`. -/
def encode : Instr → List Byte
  | .nop => [0x00]
  | .lxiB d16 => [0x01, d16.lo, d16.hi]
  | .staxB => [0x02]
  | .inxB => [0x03]
  | .inrB => [0x04]
  | .dcrB => [0x05]
  | .mviB d8 => [0x06, d8]
  | .rlc => [0x07]
  | .unimplemented08 => [0x08]
  | .dadB => [0x09]
  | .ldaxB => [0x0A]
  | .dcxB => [0x0B]
  | .inrC => [0x0C]
  | .dcrC => [0x0D]
  | .mviC d8 => [0x0E, d8]
  | .rrc => [0x0F]
  | .unimplemented10 => [0x10]
  | .lxiD d16 => [0x11, d16.lo, d16.hi]
  | .staxD => [0x12]
  | .inxD => [0x13]
  | .inrD => [0x14]
  | .dcrD => [0x15]
  | .mviD d8 => [0x16, d8]
  | .ral => [0x17]
  | .unimplemented18 => [0x18]
  | .dadD => [0x19]
  | .ldaxD => [0x1A]
  | .dcxD => [0x1B]
  | .inrE => [0x1C]
  | .dcrE => [0x1D]
  | .mviE d8 => [0x1E, d8]
  | .rar => [0x1F]
  | .unimplemented20 => [0x20]
  | .lxiH d16 => [0x21, d16.lo, d16.hi]
  | .shld a16 => [0x22, a16.lo, a16.hi]
  | .inxH => [0x23]
  | .inrH => [0x24]
  | .dcrH => [0x25]
  | .mviH d8 => [0x26, d8]
  | .daa => [0x27]
  | .unimplemented28 => [0x28]
  | .dadH => [0x29]
  | .lhld a16 => [0x2A, a16.lo, a16.hi]
  | .dcxH => [0x2B]
  | .inrL => [0x2C]
  | .dcrL => [0x2D]
  | .mviL d8 => [0x2E, d8]
  | .cma => [0x2F]
  | .unimplemented30 => [0x30]
  | .lxiSp d16 => [0x31, d16.lo, d16.hi]
  | .sta a16 => [0x32, a16.lo, a16.hi]
  | .inxSp => [0x33]
  | .inrM => [0x34]
  | .dcrM => [0x35]
  | .mviM d8 => [0x36, d8]
  | .stc => [0x37]
  | .unimplemented38 => [0x38]
  | .dadSp => [0x39]
  | .lda a16 => [0x3A, a16.lo, a16.hi]
  | .dcxSp => [0x3B]
  | .inrA => [0x3C]
  | .dcrA => [0x3D]
  | .mviA d8 => [0x3E, d8]
  | .cmc => [0x3F]
  | .movBB => [0x40]
  | .movBC => [0x41]
  | .movBD => [0x42]
  | .movBE => [0x43]
  | .movBH => [0x44]
  | .movBL => [0x45]
  | .movBM => [0x46]
  | .movBA => [0x47]
  | .movCB => [0x48]
  | .movCC => [0x49]
  | .movCD => [0x4A]
  | .movCE => [0x4B]
  | .movCH => [0x4C]
  | .movCL => [0x4D]
  | .movCM => [0x4E]
  | .movCA => [0x4F]
  | .movDB => [0x50]
  | .movDC => [0x51]
  | .movDD => [0x52]
  | .movDE => [0x53]
  | .movDH => [0x54]
  | .movDL => [0x55]
  | .movDM => [0x56]
  | .movDA => [0x57]
  | .movEB => [0x58]
  | .movEC => [0x59]
  | .movED => [0x5A]
  | .movEE => [0x5B]
  | .movEH => [0x5C]
  | .movEL => [0x5D]
  | .movEM => [0x5E]
  | .movEA => [0x5F]
  | .movHB => [0x60]
  | .movHC => [0x61]
  | .movHD => [0x62]
  | .movHE => [0x63]
  | .movHH => [0x64]
  | .movHL => [0x65]
  | .movHM => [0x66]
  | .movHA => [0x67]
  | .movLB => [0x68]
  | .movLC => [0x69]
  | .movLD => [0x6A]
  | .movLE => [0x6B]
  | .movLH => [0x6C]
  | .movLL => [0x6D]
  | .movLM => [0x6E]
  | .movLA => [0x6F]
  | .movMB => [0x70]
  | .movMC => [0x71]
  | .movMD => [0x72]
  | .movME => [0x73]
  | .movMH => [0x74]
  | .movML => [0x75]
  | .hlt => [0x76]
  | .movMA => [0x77]
  | .movAB => [0x78]
  | .movAC => [0x79]
  | .movAD => [0x7A]
  | .movAE => [0x7B]
  | .movAH => [0x7C]
  | .movAL => [0x7D]
  | .movAM => [0x7E]
  | .movAA => [0x7F]
  | .addB => [0x80]
  | .addC => [0x81]
  | .addD => [0x82]
  | .addE => [0x83]
  | .addH => [0x84]
  | .addL => [0x85]
  | .addM => [0x86]
  | .addA => [0x87]
  | .adcB => [0x88]
  | .adcC => [0x89]
  | .adcD => [0x8A]
  | .adcE => [0x8B]
  | .adcH => [0x8C]
  | .adcL => [0x8D]
  | .adcM => [0x8E]
  | .adcA => [0x8F]
  | .subB => [0x90]
  | .subC => [0x91]
  | .subD => [0x92]
  | .subE => [0x93]
  | .subH => [0x94]
  | .subL => [0x95]
  | .subM => [0x96]
  | .subA => [0x97]
  | .sbbB => [0x98]
  | .sbbC => [0x99]
  | .sbbD => [0x9A]
  | .sbbE => [0x9B]
  | .sbbH => [0x9C]
  | .sbbL => [0x9D]
  | .sbbM => [0x9E]
  | .sbbA => [0x9F]
  | .anaB => [0xA0]
  | .anaC => [0xA1]
  | .anaD => [0xA2]
  | .anaE => [0xA3]
  | .anaH => [0xA4]
  | .anaL => [0xA5]
  | .anaM => [0xA6]
  | .anaA => [0xA7]
  | .xraB => [0xA8]
  | .xraC => [0xA9]
  | .xraD => [0xAA]
  | .xraE => [0xAB]
  | .xraH => [0xAC]
  | .xraL => [0xAD]
  | .xraM => [0xAE]
  | .xraA => [0xAF]
  | .oraB => [0xB0]
  | .oraC => [0xB1]
  | .oraD => [0xB2]
  | .oraE => [0xB3]
  | .oraH => [0xB4]
  | .oraL => [0xB5]
  | .oraM => [0xB6]
  | .oraA => [0xB7]
  | .cmpB => [0xB8]
  | .cmpC => [0xB9]
  | .cmpD => [0xBA]
  | .cmpE => [0xBB]
  | .cmpH => [0xBC]
  | .cmpL => [0xBD]
  | .cmpM => [0xBE]
  | .cmpA => [0xBF]
  | .rnz => [0xC0]
  | .popB => [0xC1]
  | .jnz a16 => [0xC2, a16.lo, a16.hi]
  | .jmp a16 => [0xC3, a16.lo, a16.hi]
  | .cnz a16 => [0xC4, a16.lo, a16.hi]
  | .pushB => [0xC5]
  | .adi d8 => [0xC6, d8]
  | .rst0 => [0xC7]
  | .rz => [0xC8]
  | .ret => [0xC9]
  | .jz a16 => [0xCA, a16.lo, a16.hi]
  | .unimplementedCB => [0xCB]
  | .cz a16 => [0xCC, a16.lo, a16.hi]
  | .call a16 => [0xCD, a16.lo, a16.hi]
  | .aci d8 => [0xCE, d8]
  | .rst1 => [0xCF]
  | .rnc => [0xD0]
  | .popD => [0xD1]
  | .jnc a16 => [0xD2, a16.lo, a16.hi]
  | .outPort p8 => [0xD3, p8]
  | .cnc a16 => [0xD4, a16.lo, a16.hi]
  | .pushD => [0xD5]
  | .sui d8 => [0xD6, d8]
  | .rst2 => [0xD7]
  | .rc => [0xD8]
  | .unimplementedD9 => [0xD9]
  | .jc a16 => [0xDA, a16.lo, a16.hi]
  | .inPort p8 => [0xDB, p8]
  | .cc a16 => [0xDC, a16.lo, a16.hi]
  | .unimplementedDD => [0xDD]
  | .sbi d8 => [0xDE, d8]
  | .rst3 => [0xDF]
  | .rpo => [0xE0]
  | .popH => [0xE1]
  | .jpo a16 => [0xE2, a16.lo, a16.hi]
  | .xthl => [0xE3]
  | .cpo a16 => [0xE4, a16.lo, a16.hi]
  | .pushH => [0xE5]
  | .ani d8 => [0xE6, d8]
  | .rst4 => [0xE7]
  | .rpe => [0xE8]
  | .pchl => [0xE9]
  | .jpe a16 => [0xEA, a16.lo, a16.hi]
  | .xchg => [0xEB]
  | .cpe a16 => [0xEC, a16.lo, a16.hi]
  | .unimplementedED => [0xED]
  | .xri d8 => [0xEE, d8]
  | .rst5 => [0xEF]
  | .rp => [0xF0]
  | .popPsw => [0xF1]
  | .jp a16 => [0xF2, a16.lo, a16.hi]
  | .di => [0xF3]
  | .cp a16 => [0xF4, a16.lo, a16.hi]
  | .pushPsw => [0xF5]
  | .ori d8 => [0xF6, d8]
  | .rst6 => [0xF7]
  | .rm => [0xF8]
  | .sphl => [0xF9]
  | .jm a16 => [0xFA, a16.lo, a16.hi]
  | .ei => [0xFB]
  | .cm a16 => [0xFC, a16.lo, a16.hi]
  | .unimplementedFD => [0xFD]
  | .cpi d8 => [0xFE, d8]
  | .rst7 => [0xFF]

/-- The opcode byte of a row. -/
def Instr.opcode (i : Instr) : Byte := (encode i).headD 0

/-- The length of a row in bytes. -/
def Instr.length (i : Instr) : Nat := (encode i).length

/-- Byte `k` of the number `w`, byte 0 the first byte of the instruction (the numbering of spec/opcode_table.json). -/
def tableByte (nbits w k : Nat) : Byte := BitVec.ofNat 8 ((w % Nat.pow 2 nbits) / Nat.pow 256 k)

/-- The row the decoder reads from the instruction whose bits are `w`; the bits above `nbits` are 0. -/
def decodeTableWord (nbits w : Nat) : Option Instr :=
  match decode [tableByte nbits w 0, tableByte nbits w 1, tableByte nbits w 2] with
  | .ok (i, _) => some i
  | .error _ => none

end Sys2Proof
end

