-- ==== Sys2Proof/Config.lean ====
section
/-! DEFINITION. The open parameters of the block (R13 of 00_scope.md), as one record type. The values the model runs with, the spec's defaults, are `Machine.config` in Machine/Params.lean. The block has no undefined behaviour (93_implementation_defined.md section 1); the only values without a body are the two parameters the spec leaves OPEN. -/

namespace Sys2Proof

/-- `DAA_AC_RULE` (R139 of 41_arithmetic.md, D7): what DAA's first stage writes to AC when it fires. -/
inductive DaaAcRule where
  | nibbleCarry  -- AC <- the carry out of bit 3 of the addition of 6
  | set          -- AC <- 1
  deriving DecidableEq, Repr

/-- A range of memory: its first address and its number of bytes. -/
structure Region where
  base : Word
  len : Nat
  deriving DecidableEq, Repr, Inhabited

/-- `REGION_*` (R60 of 20_memory.md): the advisory partition of memory. Only `REGION_VIDEO` is read, by
video extraction (R68); no other rule depends on any of them. -/
structure Regions where
  program : Region
  working : Region
  video : Region
  mirror : Region
  deriving DecidableEq, Repr, Inhabited

/-- The value of `FRAME_CYCLES`, which the spec leaves OPEN (D18; log 29). -/
opaque openFrameCycles : Nat

/-- The values of `REGION_*`, which the spec leaves OPEN (D19; log 29). -/
opaque openRegions : Regions

/-- The parameters of R13, all of them. -/
structure Config where
  /-- `UNIMPL_SET`: the opcodes that raise `UnimplementedOpcode` (R79 of 30_encoding.md). A larger set faults on
  more; one without all of the twelve changes nothing, since no rule gives those rows an effect (R80). -/
  unimplSet : List Byte
  /-- `INTE_RESET`: the reset value of INTE (R43 of 10_state.md). -/
  inteReset : Bool
  /-- `ENTRY_PC`: PC at the first step (R291 of 70_reset_and_hazards.md). -/
  entryPc : Word
  /-- `PORT_IN_INPUTS` (R270 of 60_exceptions.md). -/
  portInInputs : Byte
  /-- `PORT_IN_SHIFT` (R270). -/
  portInShift : Byte
  /-- `PORT_OUT_OFFSET` (R270). -/
  portOutOffset : Byte
  /-- `PORT_OUT_DATA` (R270). -/
  portOutData : Byte
  /-- `INPUT_FIXED_MASK` (R272). -/
  inputFixedMask : Byte
  /-- `DAD_WRITES_AC` (R33 of 10_state.md). -/
  dadWritesAc : Bool
  /-- `DAA_AC_RULE` (R139 of 41_arithmetic.md). -/
  daaAcRule : DaaAcRule
  /-- `DAA_STAGE1_TRUNCATE` (R139). -/
  daaStage1Truncate : Bool
  /-- `VEC_ADDR`: the target of each vector number (R258 of 60_exceptions.md). -/
  vecAddr : Fin 8 → Word
  /-- `CYCLES`: opcode and "condition holds" to the reported cost (R82, R300). -/
  cycles : Byte → Bool → Nat
  /-- `FRAME_CYCLES`: the budget of the host's scheduler (R262 of 60_exceptions.md). It is the environment's:
  no rule of the block reads it (R263, R269), so nothing here does. -/
  frameCycles : Nat
  /-- `REGION_*` (R60 of 20_memory.md). -/
  regions : Regions

/-- The two side conditions of D13 and the two vector addresses the source fixes (R12, R258). -/
def Config.wf (c : Config) : Prop :=
  c.portInInputs ≠ c.portInShift ∧ c.portOutOffset ≠ c.portOutData ∧
    c.vecAddr 1 = 0x0008#16 ∧ c.vecAddr 2 = 0x0010#16

end Sys2Proof
end

