-- ==== Sys2Proof/Machine/Params.lean ====
section
/-! DEFINITION. The parameter values the model runs with: the default of every parameter of R13 (00_scope.md). They stand here, directly under Machine/, so that a value found wrong can be mended in one place. -/

namespace Sys2Proof.Machine

/-- Base costs of the opcodes 0x00 to 0x3F, one line of the opcode map (R78) a row; an unimplemented opcode has no cost (C10) and stands as 0. -/
def baseCyclesRows0 : List (List Nat) :=
  [[4, 10, 7, 5, 5, 5, 7, 4, 0, 10, 7, 5, 5, 5, 7, 4],
   [0, 10, 7, 5, 5, 5, 7, 4, 0, 10, 7, 5, 5, 5, 7, 4],
   [0, 10, 16, 5, 5, 5, 7, 4, 0, 10, 16, 5, 5, 5, 7, 4],
   [0, 10, 13, 5, 10, 10, 10, 4, 0, 10, 13, 5, 5, 5, 7, 4]]

/-- Base costs of the opcodes 0x40 to 0x7F, one line of the opcode map (R78) a row; an unimplemented opcode has no cost (C10) and stands as 0. -/
def baseCyclesRows1 : List (List Nat) :=
  [[5, 5, 5, 5, 5, 5, 7, 5, 5, 5, 5, 5, 5, 5, 7, 5],
   [5, 5, 5, 5, 5, 5, 7, 5, 5, 5, 5, 5, 5, 5, 7, 5],
   [5, 5, 5, 5, 5, 5, 7, 5, 5, 5, 5, 5, 5, 5, 7, 5],
   [7, 7, 7, 7, 7, 7, 7, 7, 5, 5, 5, 5, 5, 5, 7, 5]]

/-- Base costs of the opcodes 0x80 to 0xBF, one line of the opcode map (R78) a row; an unimplemented opcode has no cost (C10) and stands as 0. -/
def baseCyclesRows2 : List (List Nat) :=
  [[4, 4, 4, 4, 4, 4, 7, 4, 4, 4, 4, 4, 4, 4, 7, 4],
   [4, 4, 4, 4, 4, 4, 7, 4, 4, 4, 4, 4, 4, 4, 7, 4],
   [4, 4, 4, 4, 4, 4, 7, 4, 4, 4, 4, 4, 4, 4, 7, 4],
   [4, 4, 4, 4, 4, 4, 7, 4, 4, 4, 4, 4, 4, 4, 7, 4]]

/-- Base costs of the opcodes 0xC0 to 0xFF, one line of the opcode map (R78) a row; an unimplemented opcode has no cost (C10) and stands as 0. -/
def baseCyclesRows3 : List (List Nat) :=
  [[11, 10, 10, 10, 17, 11, 7, 11, 11, 10, 10, 0, 17, 17, 7, 11],
   [11, 10, 10, 10, 17, 11, 7, 11, 11, 0, 10, 10, 17, 0, 7, 11],
   [11, 10, 10, 18, 17, 11, 7, 11, 11, 5, 10, 4, 17, 0, 7, 11],
   [11, 10, 10, 4, 17, 11, 7, 11, 11, 5, 10, 4, 17, 0, 7, 11]]

/-- The base cost of an opcode (R300 of 70_reset_and_hazards.md, D17). -/
def baseCycles (op : Byte) : Nat :=
  (((baseCyclesRows0 ++ baseCyclesRows1 ++ baseCyclesRows2 ++ baseCyclesRows3).getD (op.toNat / 16) []).getD (op.toNat % 16) 0)

/-- The default `CYCLES` table. `taken` is whether the condition of a conditional opcode holds; a
conditional call not taken costs 11, a conditional return not taken 5, a conditional jump the same
either way (R300, R301, C5). Conditional calls are `11ccc100`, conditional returns `11ccc000` (R77). -/
def defaultCycles (op : Byte) (taken : Bool) : Nat :=
  if taken then baseCycles op
  else if 0xC0 ≤ op.toNat ∧ op.toNat % 8 = 4 then 11
  else if 0xC0 ≤ op.toNat ∧ op.toNat % 8 = 0 then 5
  else baseCycles op

/-- The default `UNIMPL_SET` (R79 of 30_encoding.md, D3). -/
def defaultUnimplSet : List Byte :=
  [0x08, 0x10, 0x18, 0x20, 0x28, 0x30, 0x38, 0xCB, 0xD9, 0xDD, 0xED, 0xFD]

/-- The spec's default of every parameter (R13 of 00_scope.md; logs 2 to 10); the two OPEN ones have none (log 29). -/
def config : Config where
  unimplSet := defaultUnimplSet
  inteReset := true
  entryPc := 0x0000
  portInInputs := 0x01
  portInShift := 0x03
  portOutOffset := 0x02
  portOutData := 0x04
  inputFixedMask := 0x08
  dadWritesAc := true
  daaAcRule := .nibbleCarry
  daaStage1Truncate := true
  vecAddr := fun v => BitVec.ofNat 16 (8 * v.val)
  cycles := defaultCycles
  frameCycles := openFrameCycles
  regions := openRegions

end Sys2Proof.Machine
end

