-- ==== Sys2Proof/Machine/State.lean ====
section
/-! DEFINITION. The whole state of the block (10_state.md: "The complete state of the block is ..."), its reset value (R43), and the reasons a step can stop. Plain data. -/

namespace Sys2Proof.Machine

/-- The seven 8-bit registers (R20). The pairs BC, DE, HL are views of them (R22). -/
structure Regs where
  a : Byte
  b : Byte
  c : Byte
  d : Byte
  e : Byte
  h : Byte
  l : Byte
  deriving DecidableEq, Repr

/-- The five one-bit flags (R28): Zero, Sign, Parity-even, Carry, Auxiliary-Carry. -/
structure Flags where
  z : Bool
  s : Bool
  p : Bool
  cy : Bool
  ac : Bool
  deriving DecidableEq, Repr

/-- The 65536 bytes of memory (R50 of 20_memory.md) as the list of those that differ from what an
unlisted address reads as, addresses strictly rising (log 15; `Memory.wf` in Ops.lean). -/
abbrev Memory := List Host.Cell

/-- Every piece of state the spec gives the machine, and `buttons`, the host's input snapshot. -/
structure State where
  /-- A, B, C, D, E, H, L (R20). -/
  regs : Regs
  /-- The program counter (R25): between steps, the address of the next instruction. -/
  pc : Word
  /-- The stack pointer (R27). -/
  sp : Word
  /-- Z, S, P, CY, AC (R28). -/
  flags : Flags
  /-- INTE, the interrupt-enable flip-flop (R36). -/
  inte : Bool
  /-- SH_HI, the high latch of the shift register (R37). -/
  shHi : Byte
  /-- SH_LO, the low latch (R37). -/
  shLo : Byte
  /-- SH_OFF, the 3-bit shift offset (R38). -/
  shOff : BitVec 3
  /-- The host's input snapshot (R9 of 00_scope.md): an input, held here as the model's own field (log 12). -/
  buttons : Byte
  /-- Memory (R50 of 20_memory.md). -/
  mem : Memory
  deriving DecidableEq, Repr

/-- The state right after creation under the parameters `c` (R43): everything zero but INTE = `INTE_RESET`
and PC = `ENTRY_PC`. P is 0 although the zero byte has even parity (C11). `buttons` has no reset value in the spec: 0 is
a DESIGN CHOICE (log 12). -/
def State.created (c : Config) : State where
  regs := { a := 0, b := 0, c := 0, d := 0, e := 0, h := 0, l := 0 }
  pc := c.entryPc
  sp := 0
  flags := { z := false, s := false, p := false, cy := false, ac := false }
  inte := c.inteReset
  shHi := 0
  shLo := 0
  shOff := 0
  buttons := 0
  mem := []

/-- The state right after reset, under the spec's defaults. -/
def State.reset : State := State.created config

/-- Why a step stops. -/
inductive Fault where
  /-- `UnimplementedOpcode` (R250, R251 of 60_exceptions.md): the byte at `pc` is an opcode the block does not
  implement. Raised by `raiseUnimplemented`, at decode (the `UNIMPL_SET` check of `fetchExecute`) or by the
  meaning of one of the twelve unimplemented rows; nothing has been written. SAFE: it is the hardware's own
  fatal outcome, with the two values the hardware reports. -/
  | unimplementedOpcode (pc : Word) (opcode : Byte)
  deriving DecidableEq, Repr

/-- Why the model has no meaning to give. -/
inductive Refusal where
  /-- Raised by an arm of `exec` whose instruction is not modelled yet; no arm of this model raises it. SAFE. -/
  | notModelled (mnemonic : String)
  deriving DecidableEq, Repr

/-- What a meaning answers. -/
abbrev Result := Host.Outcome State Fault Refusal

end Sys2Proof.Machine
end

