-- ==== Sys2Proof/Machine/Flags.lean ====
section
/-! DEFINITION. The Flag Engine (R28 to R34 of 10_state.md), the raw results of the ALU operations (R120 to R161), DAA's two stages (R139 of 41_arithmetic.md) and the rotates (R162 to R165 of 42_logical.md). -/

namespace Sys2Proof.Machine

/-- A bit as a number. -/
def bitInt (b : Bool) : Int := if b then 1 else 0

/-- `parity_even(v)` (R14): the number of 1 bits among `v[7:0]` is even. -/
def parityEven (v : Byte) : Bool := (List.range 8).countP (fun i => v.getLsbD i) % 2 == 0

/-- `zsp(v)` (R29, D28): Z, S and P from the low 8 bits of a raw integer; CY and AC untouched. -/
def Flags.zsp (f : Flags) (t : Int) : Flags :=
  let r := BitVec.ofInt 8 t
  { f with z := r == 0, s := r.getLsbD 7, p := parityEven r }

/-- `arith_flags(t)` (R31): all five flags from the raw integer result; AC mirrors CY. -/
def Flags.arith (f : Flags) (t : Int) : Flags :=
  let cy := decide (t < 0 ∨ 255 < t)
  Flags.zsp { f with cy := cy, ac := cy } t

/-- `carry16(t)` (R33, D6): CY from the overflow of the 16-bit sum; AC <- CY when `DAD_WRITES_AC`. -/
def Flags.carry16 (c : Config) (f : Flags) (t : Nat) : Flags :=
  let cy := decide (0xFFFF < t)
  { f with cy := cy, ac := if c.dadWritesAc then cy else f.ac }

/-- One bit of a byte at position `i`. -/
def bitAt (b : Bool) (i : Nat) : Byte := if b then BitVec.ofNat 8 (Nat.shiftLeft 1 i) else 0

/-- `FlagWord()` (R34): `S<<7 | Z<<6 | AC<<4 | P<<2 | 1<<1 | CY`. -/
def Flags.word (f : Flags) : Byte :=
  bitAt f.s 7 ||| bitAt f.z 6 ||| bitAt f.ac 4 ||| bitAt f.p 2 ||| bitAt true 1 ||| bitAt f.cy 0

/-- `SetFlags(b)` (R34): bits 1, 3 and 5 are discarded. -/
def Flags.ofWord (b : Byte) : Flags where
  z := b.getLsbD 6
  s := b.getLsbD 7
  p := b.getLsbD 2
  cy := b.getLsbD 0
  ac := b.getLsbD 4

/-- The raw integer result `t` of an ALU operation (R120, R123, R126, R129, R150, R153, R156, R159; D5, D24). -/
def aluRaw (op : AluOp) (a v : Byte) (cy : Bool) : Int :=
  match op with
  | .add => (a.toNat : Int) + v.toNat
  | .adc => (a.toNat : Int) + v.toNat + bitInt cy
  | .sub => (a.toNat : Int) - v.toNat
  | .sbb => (a.toNat : Int) - v.toNat - bitInt cy
  | .ana => ((a &&& v).toNat : Int)
  | .xra => ((a ^^^ v).toNat : Int)
  | .ora => ((a ||| v).toNat : Int)
  | .cmp => (a.toNat : Int) - v.toNat

/-- Whether the operation writes its result to A: all but compare (R159). -/
def aluWritesA : AluOp → Bool
  | .add => true
  | .adc => true
  | .sub => true
  | .sbb => true
  | .ana => true
  | .xra => true
  | .ora => true
  | .cmp => false

/-- DAA's stage 1 (R139): the raw sum and AC. It fires when the low nibble exceeds 9 or AC is set. -/
def daaStage1 (c : Config) (a : Byte) (ac : Bool) : Nat × Bool :=
  if 9 < a.toNat % 16 ∨ ac = true then
    (if c.daaStage1Truncate then (a.toNat + 6) % 256 else a.toNat + 6,
      match c.daaAcRule with
      | .nibbleCarry => decide (15 < a.toNat % 16 + 6)
      | .set => true)
  else (a.toNat, ac)

/-- DAA's stage 2 (R139): the adjusted byte and CY. It fires when the stage-1 sum exceeds 9 above bit 3 or CY is set. -/
def daaStage2 (t : Nat) (cy : Bool) : Byte × Bool :=
  if 9 < t / 16 ∨ cy = true then (BitVec.ofNat 8 (t + 0x60), true) else (BitVec.ofNat 8 t, cy)

/-- DAA (R139): the accumulator and the flags after it. -/
def daa (c : Config) (a : Byte) (f : Flags) : Byte × Flags :=
  let one := daaStage1 c a f.ac
  let two := daaStage2 one.1 f.cy
  (two.1, Flags.zsp { f with cy := two.2, ac := one.2 } two.1.toNat)

/-- RLC (R162): the accumulator, and the bit shifted out. -/
def rlc (a : Byte) : Byte × Bool := (a.extractLsb' 0 7 ++ a.extractLsb' 7 1, a.getLsbD 7)

/-- RRC (R163). -/
def rrc (a : Byte) : Byte × Bool := (a.extractLsb' 0 1 ++ a.extractLsb' 1 7, a.getLsbD 0)

/-- RAL (R164): `a[6:0] : c`. -/
def ral (a : Byte) (c : Bool) : Byte × Bool := (a.extractLsb' 0 7 ++ BitVec.ofBool c, a.getLsbD 7)

/-- RAR (R165): `c : a[7:1]`. -/
def rar (a : Byte) (c : Bool) : Byte × Bool := (BitVec.ofBool c ++ a.extractLsb' 1 7, a.getLsbD 0)

end Sys2Proof.Machine
end

