-- ==== Sys2Proof/Machine/Ops.lean ====
section
/-! DEFINITION. The named operations over registers and memory: register and pair access (10_state.md), the memory contract and the stack primitives (20_memory.md), how an instruction completes (R26, R70), the fault (R250), and taking an interrupt and returning from one (60_exceptions.md). -/

namespace Sys2Proof.Machine

/-! ### Registers and pairs -/

/-- `x[r]`. -/
def Regs.get (x : Regs) : Reg → Byte
  | .a => x.a
  | .b => x.b
  | .c => x.c
  | .d => x.d
  | .e => x.e
  | .h => x.h
  | .l => x.l

/-- `x[r] <- v`. -/
def Regs.set (x : Regs) (r : Reg) (v : Byte) : Regs :=
  match r with
  | .a => { x with a := v }
  | .b => { x with b := v }
  | .c => { x with c := v }
  | .d => { x with d := v }
  | .e => { x with e := v }
  | .h => { x with h := v }
  | .l => { x with l := v }

/-- The high register of a pair (R22). -/
def pairHi : RegPair → Reg
  | .bc => .b
  | .de => .d
  | .hl => .h

/-- The low register of a pair (R22). -/
def pairLo : RegPair → Reg
  | .bc => .c
  | .de => .e
  | .hl => .l

def State.reg (s : State) (r : Reg) : Byte := s.regs.get r

def State.setReg (s : State) (r : Reg) (v : Byte) : State := { s with regs := s.regs.set r v }

/-- A pair read as a 16-bit value, high register in the upper byte (R22). -/
def State.pair (s : State) (p : RegPair) : Word := Word.ofBytes (s.reg (pairHi p)) (s.reg (pairLo p))

/-- A 16-bit value written to a pair (R22). -/
def State.setPair (s : State) (p : RegPair) (v : Word) : State :=
  (s.setReg (pairHi p) v.hi).setReg (pairLo p) v.lo

def State.setPc (s : State) (w : Word) : State := { s with pc := w }

def State.setSp (s : State) (w : Word) : State := { s with sp := w }

def State.setFlags (s : State) (f : Flags) : State := { s with flags := f }

def State.setInte (s : State) (b : Bool) : State := { s with inte := b }

/-- `(SH_HI, SH_LO) <- (hi, lo)` (R37). -/
def State.setLatches (s : State) (hi lo : Byte) : State := { s with shHi := hi, shLo := lo }

/-- `SH_OFF <- o` (R38). -/
def State.setShOff (s : State) (o : BitVec 3) : State := { s with shOff := o }

/-- The host's change of the input snapshot (R9 of 00_scope.md). -/
def State.setButtons (s : State) (b : Byte) : State := { s with buttons := b }

/-! ### Memory -/

/-- What an address that is not listed reads as (R43 of 10_state.md: memory is created zeroed). -/
def Memory.unlisted : Byte := 0

/-- `read(address)` (R50 of 20_memory.md). -/
def Memory.read (m : Memory) (a : Nat) : Byte :=
  match m with
  | [] => Memory.unlisted
  | (b, v) :: rest => if a = b then v else Memory.read rest a

/-- Without any entry for address `a`. -/
def Memory.erase (m : Memory) (a : Nat) : Memory := m.filter (fun cell => cell.1 != a)

/-- With the entry `(a, v)` at its place in the rising order. -/
def Memory.insert (m : Memory) (a : Nat) (v : Byte) : Memory :=
  match m with
  | [] => [(a, v)]
  | (b, w) :: rest =>
    if a < b then (a, v) :: (b, w) :: rest
    else if a = b then (a, v) :: rest
    else (b, w) :: Memory.insert rest a v

/-- `write(address, byte)` (R50), keeping the canonical form: writing what an unlisted address reads as
removes the entry. -/
def Memory.write (m : Memory) (a : Nat) (v : Byte) : Memory :=
  if v = Memory.unlisted then Memory.erase m a else Memory.insert m a v

/-- Every address of `m` lies in `lo` to 0xFFFF, they rise strictly, and no entry says what an unlisted address reads as. -/
def Memory.wfFrom (lo : Nat) (m : Memory) : Bool :=
  match m with
  | [] => true
  | (a, v) :: rest =>
    decide (lo ≤ a) && decide (a < 65536) && decide (v ≠ Memory.unlisted) && Memory.wfFrom (a + 1) rest

/-- The canonical form. -/
def Memory.wf (m : Memory) : Bool := Memory.wfFrom 0 m

/-- `MemRead(addr, 1)` (R51). -/
def State.read (s : State) (a : Word) : Byte := s.mem.read a.toNat

/-- `MemWrite(addr, 1, v)` (R52). -/
def State.write (s : State) (a : Word) (v : Byte) : State := { s with mem := s.mem.write a.toNat v }

/-- `MemRead(addr, 2)` (R51): low byte at `addr`, high byte at `(addr + 1) mod 65536`. -/
def State.read16 (s : State) (a : Word) : Word := Word.ofBytes (s.read (a + 1)) (s.read a)

/-- `MemWrite(addr, 2, v)` (R52). -/
def State.write16 (s : State) (a : Word) (v : Word) : State := (s.write a v.lo).write (a + 1) v.hi

/-! ### The stack (R54, R55 of 20_memory.md) -/

/-- `Push16(v)`: high byte at SP-1, low byte at SP-2, SP <- SP-2. -/
def State.push16 (s : State) (v : Word) : State :=
  ((s.write (s.sp - 1) v.hi).write (s.sp - 2) v.lo).setSp (s.sp - 2)

/-- The value `Pop16()` returns: low byte at SP, high byte at SP+1. -/
def State.top16 (s : State) : Word := s.read16 s.sp

/-- What `Pop16()` leaves: SP <- SP+2, memory unchanged. -/
def State.dropTop16 (s : State) : State := s.setSp (s.sp + 2)

/-! ### How an instruction completes, and the fault -/

/-- `PC <- next` (R26 of 10_state.md). -/
def State.advance (s : State) (len : Nat) : State := s.setPc (s.pc + BitVec.ofNat 16 len)

/-- An instruction of length `len`: PC <- next, then its operation (R70, R86 of 30_encoding.md). -/
def complete (len : Nat) (operation : State → State) (s : State) : Result :=
  .next (operation (s.advance len))

/-- `raise UnimplementedOpcode(pc, opcode)` (R250, R251 of 60_exceptions.md): nothing is written. -/
def raiseUnimplemented (opcode : Byte) (s : State) : Result :=
  .fault (.unimplementedOpcode s.pc opcode)

/-! ### Taking an interrupt and returning from one (R257 to R266 of 60_exceptions.md) -/

/-- The delivery of R257 and R265: PC is pushed as CALL pushes, control goes to the vector's address,
INTE becomes 0, and nothing else is written. -/
def State.takeInterrupt (c : Config) (v : Fin 8) (s : State) : State :=
  ((s.push16 s.pc).setPc (c.vecAddr v)).setInte false

/-- `RequestInterrupt(v)` (R257): delivered when INTE = 1, lost when INTE = 0 (R259). -/
def State.requestInterrupt (c : Config) (v : Fin 8) (s : State) : State :=
  if s.inte then s.takeInterrupt c v else s

/-- The return of R266, which is RET (R200 of 43_branch.md): pc <- Pop16(), INTE unchanged. -/
def State.returnToTop (s : State) : State := s.dropTop16.setPc s.top16

end Sys2Proof.Machine
end

