-- ==== Sys2Proof/Machine/Operands.lean ====
section
/-! DEFINITION. The operand forms (R22, R23 of 10_state.md, R73 to R76 of 30_encoding.md) and the conditions. -/

namespace Sys2Proof.Machine

/-- HL, the address pair (R22). -/
def State.hl (s : State) : Word := s.pair .hl

/-- A register-coded operand read: `x[r]`, or `MemRead(HL, 1)` for M (R23). -/
def State.readSrc (s : State) : Src → Byte
  | .reg r => s.reg r
  | .m => s.read s.hl

/-- A register-coded operand written: `x[r] <- v`, or `MemWrite(HL, 1, v)` for M (R23). -/
def State.writeSrc (s : State) (dst : Src) (v : Byte) : State :=
  match dst with
  | .reg r => s.setReg r v
  | .m => s.write s.hl v

/-- The 16-bit operand of INX, DCX and DAD (R74). -/
def State.rp (s : State) : Rp → Word
  | .bc => s.pair .bc
  | .de => s.pair .de
  | .hl => s.pair .hl
  | .sp => s.sp

/-- The 16-bit destination of LXI, INX and DCX (R74). -/
def State.setRp (s : State) (p : Rp) (v : Word) : State :=
  match p with
  | .bc => s.setPair .bc v
  | .de => s.setPair .de v
  | .hl => s.setPair .hl v
  | .sp => s.setSp v

/-- The address pair of LDAX and STAX (R74). -/
def State.indAddr (s : State) : IndPair → Word
  | .bc => s.pair .bc
  | .de => s.pair .de

/-- `Cond(ccc)` (R75): the named flag has the expected value. -/
def Flags.cond (f : Flags) : Cond → Bool
  | .nz => f.z == false
  | .z => f.z == true
  | .nc => f.cy == false
  | .c => f.cy == true
  | .po => f.p == false
  | .pe => f.p == true
  | .p => f.s == false
  | .m => f.s == true

end Sys2Proof.Machine
end

