-- ==== Sys2Proof/Machine/Alu.lean ====
section
/-! DEFINITION. The shared operation of the ALU instructions: R120 to R131 of 41_arithmetic.md and R150 to R161 of 42_logical.md. -/

namespace Sys2Proof.Machine

/-- `arith_flags(t)`, then `x[A] <- t mod 256`; compare discards the result (R159). -/
def aluApply (op : AluOp) (v : Byte) (s : State) : State :=
  let t := aluRaw op (s.reg .a) v s.flags.cy
  let s' := s.setFlags (s.flags.arith t)
  if aluWritesA op then s'.setReg .a (BitVec.ofInt 8 t) else s'

/-- The register form (R120, R123, R126, R129, R150, R153, R156, R159) and the memory form (R121, R124, R127, R130, R151, R154, R157, R160). -/
def doAlu (op : AluOp) (src : Src) (s : State) : State := aluApply op (s.readSrc src) s

/-- The immediate form (R122, R125, R128, R131, R152, R155, R158, R161). -/
def doAluImm (op : AluOp) (d8 : Byte) (s : State) : State := aluApply op d8 s

end Sys2Proof.Machine
end

