-- ==== Sys2Proof/Machine/Arithmetic.lean ====
section
/-! DEFINITION. The arithmetic instructions (41_arithmetic.md, R120 to R139): the operation of each form, then one meaning for each row. -/

namespace Sys2Proof.Machine

/-- R132, R133: the operand plus 1 modulo 256; Z, S, P from the result, CY and AC unmodified. -/
def doInr (dst : Src) (s : State) : State :=
  let v := s.readSrc dst + 1
  (s.writeSrc dst v).setFlags (s.flags.zsp v.toNat)

/-- R134, R135: the operand minus 1 modulo 256; Z, S, P from the result, CY and AC unmodified. -/
def doDcr (dst : Src) (s : State) : State :=
  let v := s.readSrc dst - 1
  (s.writeSrc dst v).setFlags (s.flags.zsp v.toNat)

/-- R136: plus 1 modulo 65536, no flag. -/
def doInx (p : Rp) (s : State) : State := s.setRp p (s.rp p + 1)

/-- R137: minus 1 modulo 65536, no flag. -/
def doDcx (p : Rp) (s : State) : State := s.setRp p (s.rp p - 1)

/-- R138: `HL <- HL + v` modulo 65536; the flags by `carry16` of the raw sum. -/
def doDad (c : Config) (p : Rp) (s : State) : State :=
  let t := s.hl.toNat + (s.rp p).toNat
  (s.setPair .hl (BitVec.ofNat 16 t)).setFlags (s.flags.carry16 c t)

/-- R139: A and the flags by the two-stage adjustment. -/
def doDaa (c : Config) (s : State) : State :=
  (s.setReg .a (daa c (s.reg .a) s.flags).1).setFlags (daa c (s.reg .a) s.flags).2

/-- INX B (R136). -/
def execInxB (s : State) : Result := complete 1 (doInx .bc) s

/-- INR B (R132). -/
def execInrB (s : State) : Result := complete 1 (doInr (.reg .b)) s

/-- DCR B (R134). -/
def execDcrB (s : State) : Result := complete 1 (doDcr (.reg .b)) s

/-- DAD B (R138) under the parameters `c`. -/
def execDadBWith (c : Config) (s : State) : Result := complete 1 (doDad c .bc) s

/-- DAD B (R138). -/
def execDadB (s : State) : Result := execDadBWith config s

/-- DCX B (R137). -/
def execDcxB (s : State) : Result := complete 1 (doDcx .bc) s

/-- INR C (R132). -/
def execInrC (s : State) : Result := complete 1 (doInr (.reg .c)) s

/-- DCR C (R134). -/
def execDcrC (s : State) : Result := complete 1 (doDcr (.reg .c)) s

/-- INX D (R136). -/
def execInxD (s : State) : Result := complete 1 (doInx .de) s

/-- INR D (R132). -/
def execInrD (s : State) : Result := complete 1 (doInr (.reg .d)) s

/-- DCR D (R134). -/
def execDcrD (s : State) : Result := complete 1 (doDcr (.reg .d)) s

/-- DAD D (R138) under the parameters `c`. -/
def execDadDWith (c : Config) (s : State) : Result := complete 1 (doDad c .de) s

/-- DAD D (R138). -/
def execDadD (s : State) : Result := execDadDWith config s

/-- DCX D (R137). -/
def execDcxD (s : State) : Result := complete 1 (doDcx .de) s

/-- INR E (R132). -/
def execInrE (s : State) : Result := complete 1 (doInr (.reg .e)) s

/-- DCR E (R134). -/
def execDcrE (s : State) : Result := complete 1 (doDcr (.reg .e)) s

/-- INX H (R136). -/
def execInxH (s : State) : Result := complete 1 (doInx .hl) s

/-- INR H (R132). -/
def execInrH (s : State) : Result := complete 1 (doInr (.reg .h)) s

/-- DCR H (R134). -/
def execDcrH (s : State) : Result := complete 1 (doDcr (.reg .h)) s

/-- DAA (R139) under the parameters `c`. -/
def execDaaWith (c : Config) (s : State) : Result := complete 1 (doDaa c) s

/-- DAA (R139). -/
def execDaa (s : State) : Result := execDaaWith config s

/-- DAD H (R138) under the parameters `c`. -/
def execDadHWith (c : Config) (s : State) : Result := complete 1 (doDad c .hl) s

/-- DAD H (R138). -/
def execDadH (s : State) : Result := execDadHWith config s

/-- DCX H (R137). -/
def execDcxH (s : State) : Result := complete 1 (doDcx .hl) s

/-- INR L (R132). -/
def execInrL (s : State) : Result := complete 1 (doInr (.reg .l)) s

/-- DCR L (R134). -/
def execDcrL (s : State) : Result := complete 1 (doDcr (.reg .l)) s

/-- INX SP (R136). -/
def execInxSp (s : State) : Result := complete 1 (doInx .sp) s

/-- INR M (R133). -/
def execInrM (s : State) : Result := complete 1 (doInr .m) s

/-- DCR M (R135). -/
def execDcrM (s : State) : Result := complete 1 (doDcr .m) s

/-- DAD SP (R138) under the parameters `c`. -/
def execDadSpWith (c : Config) (s : State) : Result := complete 1 (doDad c .sp) s

/-- DAD SP (R138). -/
def execDadSp (s : State) : Result := execDadSpWith config s

/-- DCX SP (R137). -/
def execDcxSp (s : State) : Result := complete 1 (doDcx .sp) s

/-- INR A (R132). -/
def execInrA (s : State) : Result := complete 1 (doInr (.reg .a)) s

/-- DCR A (R134). -/
def execDcrA (s : State) : Result := complete 1 (doDcr (.reg .a)) s

/-- ADD B (R120). -/
def execAddB (s : State) : Result := complete 1 (doAlu .add (.reg .b)) s

/-- ADD C (R120). -/
def execAddC (s : State) : Result := complete 1 (doAlu .add (.reg .c)) s

/-- ADD D (R120). -/
def execAddD (s : State) : Result := complete 1 (doAlu .add (.reg .d)) s

/-- ADD E (R120). -/
def execAddE (s : State) : Result := complete 1 (doAlu .add (.reg .e)) s

/-- ADD H (R120). -/
def execAddH (s : State) : Result := complete 1 (doAlu .add (.reg .h)) s

/-- ADD L (R120). -/
def execAddL (s : State) : Result := complete 1 (doAlu .add (.reg .l)) s

/-- ADD M (R121). -/
def execAddM (s : State) : Result := complete 1 (doAlu .add .m) s

/-- ADD A (R120). -/
def execAddA (s : State) : Result := complete 1 (doAlu .add (.reg .a)) s

/-- ADC B (R123). -/
def execAdcB (s : State) : Result := complete 1 (doAlu .adc (.reg .b)) s

/-- ADC C (R123). -/
def execAdcC (s : State) : Result := complete 1 (doAlu .adc (.reg .c)) s

/-- ADC D (R123). -/
def execAdcD (s : State) : Result := complete 1 (doAlu .adc (.reg .d)) s

/-- ADC E (R123). -/
def execAdcE (s : State) : Result := complete 1 (doAlu .adc (.reg .e)) s

/-- ADC H (R123). -/
def execAdcH (s : State) : Result := complete 1 (doAlu .adc (.reg .h)) s

/-- ADC L (R123). -/
def execAdcL (s : State) : Result := complete 1 (doAlu .adc (.reg .l)) s

/-- ADC M (R124). -/
def execAdcM (s : State) : Result := complete 1 (doAlu .adc .m) s

/-- ADC A (R123). -/
def execAdcA (s : State) : Result := complete 1 (doAlu .adc (.reg .a)) s

/-- SUB B (R126). -/
def execSubB (s : State) : Result := complete 1 (doAlu .sub (.reg .b)) s

/-- SUB C (R126). -/
def execSubC (s : State) : Result := complete 1 (doAlu .sub (.reg .c)) s

/-- SUB D (R126). -/
def execSubD (s : State) : Result := complete 1 (doAlu .sub (.reg .d)) s

/-- SUB E (R126). -/
def execSubE (s : State) : Result := complete 1 (doAlu .sub (.reg .e)) s

/-- SUB H (R126). -/
def execSubH (s : State) : Result := complete 1 (doAlu .sub (.reg .h)) s

/-- SUB L (R126). -/
def execSubL (s : State) : Result := complete 1 (doAlu .sub (.reg .l)) s

/-- SUB M (R127). -/
def execSubM (s : State) : Result := complete 1 (doAlu .sub .m) s

/-- SUB A (R126). -/
def execSubA (s : State) : Result := complete 1 (doAlu .sub (.reg .a)) s

/-- SBB B (R129). -/
def execSbbB (s : State) : Result := complete 1 (doAlu .sbb (.reg .b)) s

/-- SBB C (R129). -/
def execSbbC (s : State) : Result := complete 1 (doAlu .sbb (.reg .c)) s

/-- SBB D (R129). -/
def execSbbD (s : State) : Result := complete 1 (doAlu .sbb (.reg .d)) s

/-- SBB E (R129). -/
def execSbbE (s : State) : Result := complete 1 (doAlu .sbb (.reg .e)) s

/-- SBB H (R129). -/
def execSbbH (s : State) : Result := complete 1 (doAlu .sbb (.reg .h)) s

/-- SBB L (R129). -/
def execSbbL (s : State) : Result := complete 1 (doAlu .sbb (.reg .l)) s

/-- SBB M (R130). -/
def execSbbM (s : State) : Result := complete 1 (doAlu .sbb .m) s

/-- SBB A (R129). -/
def execSbbA (s : State) : Result := complete 1 (doAlu .sbb (.reg .a)) s

/-- ADI d8 (R122). -/
def execAdi (d8 : Byte) (s : State) : Result := complete 2 (doAluImm .add d8) s

/-- ACI d8 (R125). -/
def execAci (d8 : Byte) (s : State) : Result := complete 2 (doAluImm .adc d8) s

/-- SUI d8 (R128). -/
def execSui (d8 : Byte) (s : State) : Result := complete 2 (doAluImm .sub d8) s

/-- SBI d8 (R131). -/
def execSbi (d8 : Byte) (s : State) : Result := complete 2 (doAluImm .sbb d8) s

end Sys2Proof.Machine
end

