-- ==== Sys2Proof/Machine/Branch.lean ====
section
/-! DEFINITION. The branch instructions (43_branch.md, R179 to R210): the operation of each form, then one meaning for each row. On entry of an operation PC is `next`. No flag is written. -/

namespace Sys2Proof.Machine

/-- R180: `pc <- a16`. -/
def doJmp (a16 : Word) (s : State) : State := s.setPc a16

/-- R190: `Push16(next); pc <- a16`. -/
def doCall (a16 : Word) (s : State) : State := (s.push16 s.pc).setPc a16

/-- R200: `pc <- Pop16()`. -/
def doRet (s : State) : State := s.returnToTop

/-- R179, R181 to R188: JMP when the condition holds, else nothing more than `PC <- next`. -/
def doJcc (k : Cond) (a16 : Word) (s : State) : State := if s.flags.cond k then doJmp a16 s else s

/-- R179, R191 to R198: CALL when the condition holds. -/
def doCcc (k : Cond) (a16 : Word) (s : State) : State := if s.flags.cond k then doCall a16 s else s

/-- R179, R201 to R208: RET when the condition holds. -/
def doRcc (k : Cond) (s : State) : State := if s.flags.cond k then doRet s else s

/-- R209: `Push16(next); pc <- 8 * n`. -/
def doRst (n : Fin 8) (s : State) : State := (s.push16 s.pc).setPc (BitVec.ofNat 16 (8 * n.val))

/-- R210: `pc <- HL`. -/
def doPchl (s : State) : State := s.setPc s.hl

/-- RNZ (R201). -/
def execRnz (s : State) : Result := complete 1 (doRcc .nz) s

/-- JNZ a16 (R181). -/
def execJnz (a16 : Word) (s : State) : Result := complete 3 (doJcc .nz a16) s

/-- JMP a16 (R180). -/
def execJmp (a16 : Word) (s : State) : Result := complete 3 (doJmp a16) s

/-- CNZ a16 (R191). -/
def execCnz (a16 : Word) (s : State) : Result := complete 3 (doCcc .nz a16) s

/-- RST 0 (R209). -/
def execRst0 (s : State) : Result := complete 1 (doRst 0) s

/-- RZ (R202). -/
def execRz (s : State) : Result := complete 1 (doRcc .z) s

/-- RET (R200). -/
def execRet (s : State) : Result := complete 1 doRet s

/-- JZ a16 (R182). -/
def execJz (a16 : Word) (s : State) : Result := complete 3 (doJcc .z a16) s

/-- CZ a16 (R192). -/
def execCz (a16 : Word) (s : State) : Result := complete 3 (doCcc .z a16) s

/-- CALL a16 (R190). -/
def execCall (a16 : Word) (s : State) : Result := complete 3 (doCall a16) s

/-- RST 1 (R209). -/
def execRst1 (s : State) : Result := complete 1 (doRst 1) s

/-- RNC (R203). -/
def execRnc (s : State) : Result := complete 1 (doRcc .nc) s

/-- JNC a16 (R183). -/
def execJnc (a16 : Word) (s : State) : Result := complete 3 (doJcc .nc a16) s

/-- CNC a16 (R193). -/
def execCnc (a16 : Word) (s : State) : Result := complete 3 (doCcc .nc a16) s

/-- RST 2 (R209). -/
def execRst2 (s : State) : Result := complete 1 (doRst 2) s

/-- RC (R204). -/
def execRc (s : State) : Result := complete 1 (doRcc .c) s

/-- JC a16 (R184). -/
def execJc (a16 : Word) (s : State) : Result := complete 3 (doJcc .c a16) s

/-- CC a16 (R194). -/
def execCc (a16 : Word) (s : State) : Result := complete 3 (doCcc .c a16) s

/-- RST 3 (R209). -/
def execRst3 (s : State) : Result := complete 1 (doRst 3) s

/-- RPO (R205). -/
def execRpo (s : State) : Result := complete 1 (doRcc .po) s

/-- JPO a16 (R185). -/
def execJpo (a16 : Word) (s : State) : Result := complete 3 (doJcc .po a16) s

/-- CPO a16 (R195). -/
def execCpo (a16 : Word) (s : State) : Result := complete 3 (doCcc .po a16) s

/-- RST 4 (R209). -/
def execRst4 (s : State) : Result := complete 1 (doRst 4) s

/-- RPE (R206). -/
def execRpe (s : State) : Result := complete 1 (doRcc .pe) s

/-- PCHL (R210). -/
def execPchl (s : State) : Result := complete 1 doPchl s

/-- JPE a16 (R186). -/
def execJpe (a16 : Word) (s : State) : Result := complete 3 (doJcc .pe a16) s

/-- CPE a16 (R196). -/
def execCpe (a16 : Word) (s : State) : Result := complete 3 (doCcc .pe a16) s

/-- RST 5 (R209). -/
def execRst5 (s : State) : Result := complete 1 (doRst 5) s

/-- RP (R207). -/
def execRp (s : State) : Result := complete 1 (doRcc .p) s

/-- JP a16 (R187). -/
def execJp (a16 : Word) (s : State) : Result := complete 3 (doJcc .p a16) s

/-- CP a16 (R197). -/
def execCp (a16 : Word) (s : State) : Result := complete 3 (doCcc .p a16) s

/-- RST 6 (R209). -/
def execRst6 (s : State) : Result := complete 1 (doRst 6) s

/-- RM (R208). -/
def execRm (s : State) : Result := complete 1 (doRcc .m) s

/-- JM a16 (R188). -/
def execJm (a16 : Word) (s : State) : Result := complete 3 (doJcc .m a16) s

/-- CM a16 (R198). -/
def execCm (a16 : Word) (s : State) : Result := complete 3 (doCcc .m a16) s

/-- RST 7 (R209). -/
def execRst7 (s : State) : Result := complete 1 (doRst 7) s

end Sys2Proof.Machine
end

