-- ==== Sys2Proof/Machine/DataTransfer.lean ====
section
/-! DEFINITION. The data transfer instructions (40_data_transfer.md, R100 to R112): the operation of each form, then one meaning for each row. No flag is written. -/

namespace Sys2Proof.Machine

/-- R100: `x[r1] <- x[r2]`. -/
def doMov (dst src : Reg) (s : State) : State := s.setReg dst (s.reg src)

/-- R101: `x[r] <- MemRead(HL, 1)`, the address taken before the write. -/
def doMovFromM (dst : Reg) (s : State) : State := s.setReg dst (s.read s.hl)

/-- R102: `MemWrite(HL, 1, x[r])`. -/
def doMovToM (src : Reg) (s : State) : State := s.write s.hl (s.reg src)

/-- R103, R104: `x[r] <- d8`, or `MemWrite(HL, 1, d8)`. -/
def doMvi (dst : Src) (d8 : Byte) (s : State) : State := s.writeSrc dst d8

/-- R105: `pair(pp) <- d16` or `SP <- d16`. -/
def doLxi (dst : Rp) (d16 : Word) (s : State) : State := s.setRp dst d16

/-- R106: `x[A] <- MemRead(a16, 1)`. -/
def doLda (a16 : Word) (s : State) : State := s.setReg .a (s.read a16)

/-- R107: `MemWrite(a16, 1, x[A])`. -/
def doSta (a16 : Word) (s : State) : State := s.write a16 (s.reg .a)

/-- R108: `HL <- MemRead(a16, 2)`. -/
def doLhld (a16 : Word) (s : State) : State := s.setPair .hl (s.read16 a16)

/-- R109: `MemWrite(a16, 2, HL)`. -/
def doShld (a16 : Word) (s : State) : State := s.write16 a16 s.hl

/-- R110: `x[A] <- MemRead(pair(p), 1)`. -/
def doLdax (p : IndPair) (s : State) : State := s.setReg .a (s.read (s.indAddr p))

/-- R111: `MemWrite(pair(p), 1, x[A])`. -/
def doStax (p : IndPair) (s : State) : State := s.write (s.indAddr p) (s.reg .a)

/-- R112: HL and DE exchanged at once. -/
def doXchg (s : State) : State := (s.setPair .hl (s.pair .de)).setPair .de (s.pair .hl)

/-- LXI B,d16 (R105). -/
def execLxiB (d16 : Word) (s : State) : Result := complete 3 (doLxi .bc d16) s

/-- STAX B (R111). -/
def execStaxB (s : State) : Result := complete 1 (doStax .bc) s

/-- MVI B,d8 (R103). -/
def execMviB (d8 : Byte) (s : State) : Result := complete 2 (doMvi (.reg .b) d8) s

/-- LDAX B (R110). -/
def execLdaxB (s : State) : Result := complete 1 (doLdax .bc) s

/-- MVI C,d8 (R103). -/
def execMviC (d8 : Byte) (s : State) : Result := complete 2 (doMvi (.reg .c) d8) s

/-- LXI D,d16 (R105). -/
def execLxiD (d16 : Word) (s : State) : Result := complete 3 (doLxi .de d16) s

/-- STAX D (R111). -/
def execStaxD (s : State) : Result := complete 1 (doStax .de) s

/-- MVI D,d8 (R103). -/
def execMviD (d8 : Byte) (s : State) : Result := complete 2 (doMvi (.reg .d) d8) s

/-- LDAX D (R110). -/
def execLdaxD (s : State) : Result := complete 1 (doLdax .de) s

/-- MVI E,d8 (R103). -/
def execMviE (d8 : Byte) (s : State) : Result := complete 2 (doMvi (.reg .e) d8) s

/-- LXI H,d16 (R105). -/
def execLxiH (d16 : Word) (s : State) : Result := complete 3 (doLxi .hl d16) s

/-- SHLD a16 (R109). -/
def execShld (a16 : Word) (s : State) : Result := complete 3 (doShld a16) s

/-- MVI H,d8 (R103). -/
def execMviH (d8 : Byte) (s : State) : Result := complete 2 (doMvi (.reg .h) d8) s

/-- LHLD a16 (R108). -/
def execLhld (a16 : Word) (s : State) : Result := complete 3 (doLhld a16) s

/-- MVI L,d8 (R103). -/
def execMviL (d8 : Byte) (s : State) : Result := complete 2 (doMvi (.reg .l) d8) s

/-- LXI SP,d16 (R105). -/
def execLxiSp (d16 : Word) (s : State) : Result := complete 3 (doLxi .sp d16) s

/-- STA a16 (R107). -/
def execSta (a16 : Word) (s : State) : Result := complete 3 (doSta a16) s

/-- MVI M,d8 (R104). -/
def execMviM (d8 : Byte) (s : State) : Result := complete 2 (doMvi .m d8) s

/-- LDA a16 (R106). -/
def execLda (a16 : Word) (s : State) : Result := complete 3 (doLda a16) s

/-- MVI A,d8 (R103). -/
def execMviA (d8 : Byte) (s : State) : Result := complete 2 (doMvi (.reg .a) d8) s

/-- MOV B,B (R100). -/
def execMovBB (s : State) : Result := complete 1 (doMov .b .b) s

/-- MOV B,C (R100). -/
def execMovBC (s : State) : Result := complete 1 (doMov .b .c) s

/-- MOV B,D (R100). -/
def execMovBD (s : State) : Result := complete 1 (doMov .b .d) s

/-- MOV B,E (R100). -/
def execMovBE (s : State) : Result := complete 1 (doMov .b .e) s

/-- MOV B,H (R100). -/
def execMovBH (s : State) : Result := complete 1 (doMov .b .h) s

/-- MOV B,L (R100). -/
def execMovBL (s : State) : Result := complete 1 (doMov .b .l) s

/-- MOV B,M (R101). -/
def execMovBM (s : State) : Result := complete 1 (doMovFromM .b) s

/-- MOV B,A (R100). -/
def execMovBA (s : State) : Result := complete 1 (doMov .b .a) s

/-- MOV C,B (R100). -/
def execMovCB (s : State) : Result := complete 1 (doMov .c .b) s

/-- MOV C,C (R100). -/
def execMovCC (s : State) : Result := complete 1 (doMov .c .c) s

/-- MOV C,D (R100). -/
def execMovCD (s : State) : Result := complete 1 (doMov .c .d) s

/-- MOV C,E (R100). -/
def execMovCE (s : State) : Result := complete 1 (doMov .c .e) s

/-- MOV C,H (R100). -/
def execMovCH (s : State) : Result := complete 1 (doMov .c .h) s

/-- MOV C,L (R100). -/
def execMovCL (s : State) : Result := complete 1 (doMov .c .l) s

/-- MOV C,M (R101). -/
def execMovCM (s : State) : Result := complete 1 (doMovFromM .c) s

/-- MOV C,A (R100). -/
def execMovCA (s : State) : Result := complete 1 (doMov .c .a) s

/-- MOV D,B (R100). -/
def execMovDB (s : State) : Result := complete 1 (doMov .d .b) s

/-- MOV D,C (R100). -/
def execMovDC (s : State) : Result := complete 1 (doMov .d .c) s

/-- MOV D,D (R100). -/
def execMovDD (s : State) : Result := complete 1 (doMov .d .d) s

/-- MOV D,E (R100). -/
def execMovDE (s : State) : Result := complete 1 (doMov .d .e) s

/-- MOV D,H (R100). -/
def execMovDH (s : State) : Result := complete 1 (doMov .d .h) s

/-- MOV D,L (R100). -/
def execMovDL (s : State) : Result := complete 1 (doMov .d .l) s

/-- MOV D,M (R101). -/
def execMovDM (s : State) : Result := complete 1 (doMovFromM .d) s

/-- MOV D,A (R100). -/
def execMovDA (s : State) : Result := complete 1 (doMov .d .a) s

/-- MOV E,B (R100). -/
def execMovEB (s : State) : Result := complete 1 (doMov .e .b) s

/-- MOV E,C (R100). -/
def execMovEC (s : State) : Result := complete 1 (doMov .e .c) s

/-- MOV E,D (R100). -/
def execMovED (s : State) : Result := complete 1 (doMov .e .d) s

/-- MOV E,E (R100). -/
def execMovEE (s : State) : Result := complete 1 (doMov .e .e) s

/-- MOV E,H (R100). -/
def execMovEH (s : State) : Result := complete 1 (doMov .e .h) s

/-- MOV E,L (R100). -/
def execMovEL (s : State) : Result := complete 1 (doMov .e .l) s

/-- MOV E,M (R101). -/
def execMovEM (s : State) : Result := complete 1 (doMovFromM .e) s

/-- MOV E,A (R100). -/
def execMovEA (s : State) : Result := complete 1 (doMov .e .a) s

/-- MOV H,B (R100). -/
def execMovHB (s : State) : Result := complete 1 (doMov .h .b) s

/-- MOV H,C (R100). -/
def execMovHC (s : State) : Result := complete 1 (doMov .h .c) s

/-- MOV H,D (R100). -/
def execMovHD (s : State) : Result := complete 1 (doMov .h .d) s

/-- MOV H,E (R100). -/
def execMovHE (s : State) : Result := complete 1 (doMov .h .e) s

/-- MOV H,H (R100). -/
def execMovHH (s : State) : Result := complete 1 (doMov .h .h) s

/-- MOV H,L (R100). -/
def execMovHL (s : State) : Result := complete 1 (doMov .h .l) s

/-- MOV H,M (R101). -/
def execMovHM (s : State) : Result := complete 1 (doMovFromM .h) s

/-- MOV H,A (R100). -/
def execMovHA (s : State) : Result := complete 1 (doMov .h .a) s

/-- MOV L,B (R100). -/
def execMovLB (s : State) : Result := complete 1 (doMov .l .b) s

/-- MOV L,C (R100). -/
def execMovLC (s : State) : Result := complete 1 (doMov .l .c) s

/-- MOV L,D (R100). -/
def execMovLD (s : State) : Result := complete 1 (doMov .l .d) s

/-- MOV L,E (R100). -/
def execMovLE (s : State) : Result := complete 1 (doMov .l .e) s

/-- MOV L,H (R100). -/
def execMovLH (s : State) : Result := complete 1 (doMov .l .h) s

/-- MOV L,L (R100). -/
def execMovLL (s : State) : Result := complete 1 (doMov .l .l) s

/-- MOV L,M (R101). -/
def execMovLM (s : State) : Result := complete 1 (doMovFromM .l) s

/-- MOV L,A (R100). -/
def execMovLA (s : State) : Result := complete 1 (doMov .l .a) s

/-- MOV M,B (R102). -/
def execMovMB (s : State) : Result := complete 1 (doMovToM .b) s

/-- MOV M,C (R102). -/
def execMovMC (s : State) : Result := complete 1 (doMovToM .c) s

/-- MOV M,D (R102). -/
def execMovMD (s : State) : Result := complete 1 (doMovToM .d) s

/-- MOV M,E (R102). -/
def execMovME (s : State) : Result := complete 1 (doMovToM .e) s

/-- MOV M,H (R102). -/
def execMovMH (s : State) : Result := complete 1 (doMovToM .h) s

/-- MOV M,L (R102). -/
def execMovML (s : State) : Result := complete 1 (doMovToM .l) s

/-- MOV M,A (R102). -/
def execMovMA (s : State) : Result := complete 1 (doMovToM .a) s

/-- MOV A,B (R100). -/
def execMovAB (s : State) : Result := complete 1 (doMov .a .b) s

/-- MOV A,C (R100). -/
def execMovAC (s : State) : Result := complete 1 (doMov .a .c) s

/-- MOV A,D (R100). -/
def execMovAD (s : State) : Result := complete 1 (doMov .a .d) s

/-- MOV A,E (R100). -/
def execMovAE (s : State) : Result := complete 1 (doMov .a .e) s

/-- MOV A,H (R100). -/
def execMovAH (s : State) : Result := complete 1 (doMov .a .h) s

/-- MOV A,L (R100). -/
def execMovAL (s : State) : Result := complete 1 (doMov .a .l) s

/-- MOV A,M (R101). -/
def execMovAM (s : State) : Result := complete 1 (doMovFromM .a) s

/-- MOV A,A (R100). -/
def execMovAA (s : State) : Result := complete 1 (doMov .a .a) s

/-- XCHG (R112). -/
def execXchg (s : State) : Result := complete 1 doXchg s

end Sys2Proof.Machine
end

