-- ==== Sys2Proof/Machine/Logical.lean ====
section
/-! DEFINITION. The logical, compare, rotate and carry instructions (42_logical.md, R150 to R168): the operation of each form, then one meaning for each row. -/

namespace Sys2Proof.Machine

/-- A rotate (R162 to R165): the result to A, the bit shifted out to CY; Z, S, P, AC untouched. -/
def putRotated (result : Byte × Bool) (s : State) : State :=
  (s.setReg .a result.1).setFlags { s.flags with cy := result.2 }

/-- R162. -/
def doRlc (s : State) : State := putRotated (rlc (s.reg .a)) s

/-- R163. -/
def doRrc (s : State) : State := putRotated (rrc (s.reg .a)) s

/-- R164: through the carry. -/
def doRal (s : State) : State := putRotated (ral (s.reg .a) s.flags.cy) s

/-- R165: through the carry. -/
def doRar (s : State) : State := putRotated (rar (s.reg .a) s.flags.cy) s

/-- R166: `x[A] <- ~x[A]`, no flag. -/
def doCma (s : State) : State := s.setReg .a (~~~(s.reg .a))

/-- R167: `CY <- 1 - CY`; Z, S, P, AC untouched. -/
def doCmc (s : State) : State := s.setFlags { s.flags with cy := !s.flags.cy }

/-- R168: `CY <- 1`; Z, S, P, AC untouched. -/
def doStc (s : State) : State := s.setFlags { s.flags with cy := true }

/-- RLC (R162). -/
def execRlc (s : State) : Result := complete 1 doRlc s

/-- RRC (R163). -/
def execRrc (s : State) : Result := complete 1 doRrc s

/-- RAL (R164). -/
def execRal (s : State) : Result := complete 1 doRal s

/-- RAR (R165). -/
def execRar (s : State) : Result := complete 1 doRar s

/-- CMA (R166). -/
def execCma (s : State) : Result := complete 1 doCma s

/-- STC (R168). -/
def execStc (s : State) : Result := complete 1 doStc s

/-- CMC (R167). -/
def execCmc (s : State) : Result := complete 1 doCmc s

/-- ANA B (R150). -/
def execAnaB (s : State) : Result := complete 1 (doAlu .ana (.reg .b)) s

/-- ANA C (R150). -/
def execAnaC (s : State) : Result := complete 1 (doAlu .ana (.reg .c)) s

/-- ANA D (R150). -/
def execAnaD (s : State) : Result := complete 1 (doAlu .ana (.reg .d)) s

/-- ANA E (R150). -/
def execAnaE (s : State) : Result := complete 1 (doAlu .ana (.reg .e)) s

/-- ANA H (R150). -/
def execAnaH (s : State) : Result := complete 1 (doAlu .ana (.reg .h)) s

/-- ANA L (R150). -/
def execAnaL (s : State) : Result := complete 1 (doAlu .ana (.reg .l)) s

/-- ANA M (R151). -/
def execAnaM (s : State) : Result := complete 1 (doAlu .ana .m) s

/-- ANA A (R150). -/
def execAnaA (s : State) : Result := complete 1 (doAlu .ana (.reg .a)) s

/-- XRA B (R153). -/
def execXraB (s : State) : Result := complete 1 (doAlu .xra (.reg .b)) s

/-- XRA C (R153). -/
def execXraC (s : State) : Result := complete 1 (doAlu .xra (.reg .c)) s

/-- XRA D (R153). -/
def execXraD (s : State) : Result := complete 1 (doAlu .xra (.reg .d)) s

/-- XRA E (R153). -/
def execXraE (s : State) : Result := complete 1 (doAlu .xra (.reg .e)) s

/-- XRA H (R153). -/
def execXraH (s : State) : Result := complete 1 (doAlu .xra (.reg .h)) s

/-- XRA L (R153). -/
def execXraL (s : State) : Result := complete 1 (doAlu .xra (.reg .l)) s

/-- XRA M (R154). -/
def execXraM (s : State) : Result := complete 1 (doAlu .xra .m) s

/-- XRA A (R153). -/
def execXraA (s : State) : Result := complete 1 (doAlu .xra (.reg .a)) s

/-- ORA B (R156). -/
def execOraB (s : State) : Result := complete 1 (doAlu .ora (.reg .b)) s

/-- ORA C (R156). -/
def execOraC (s : State) : Result := complete 1 (doAlu .ora (.reg .c)) s

/-- ORA D (R156). -/
def execOraD (s : State) : Result := complete 1 (doAlu .ora (.reg .d)) s

/-- ORA E (R156). -/
def execOraE (s : State) : Result := complete 1 (doAlu .ora (.reg .e)) s

/-- ORA H (R156). -/
def execOraH (s : State) : Result := complete 1 (doAlu .ora (.reg .h)) s

/-- ORA L (R156). -/
def execOraL (s : State) : Result := complete 1 (doAlu .ora (.reg .l)) s

/-- ORA M (R157). -/
def execOraM (s : State) : Result := complete 1 (doAlu .ora .m) s

/-- ORA A (R156). -/
def execOraA (s : State) : Result := complete 1 (doAlu .ora (.reg .a)) s

/-- CMP B (R159). -/
def execCmpB (s : State) : Result := complete 1 (doAlu .cmp (.reg .b)) s

/-- CMP C (R159). -/
def execCmpC (s : State) : Result := complete 1 (doAlu .cmp (.reg .c)) s

/-- CMP D (R159). -/
def execCmpD (s : State) : Result := complete 1 (doAlu .cmp (.reg .d)) s

/-- CMP E (R159). -/
def execCmpE (s : State) : Result := complete 1 (doAlu .cmp (.reg .e)) s

/-- CMP H (R159). -/
def execCmpH (s : State) : Result := complete 1 (doAlu .cmp (.reg .h)) s

/-- CMP L (R159). -/
def execCmpL (s : State) : Result := complete 1 (doAlu .cmp (.reg .l)) s

/-- CMP M (R160). -/
def execCmpM (s : State) : Result := complete 1 (doAlu .cmp .m) s

/-- CMP A (R159). -/
def execCmpA (s : State) : Result := complete 1 (doAlu .cmp (.reg .a)) s

/-- ANI d8 (R152). -/
def execAni (d8 : Byte) (s : State) : Result := complete 2 (doAluImm .ana d8) s

/-- XRI d8 (R155). -/
def execXri (d8 : Byte) (s : State) : Result := complete 2 (doAluImm .xra d8) s

/-- ORI d8 (R158). -/
def execOri (d8 : Byte) (s : State) : Result := complete 2 (doAluImm .ora d8) s

/-- CPI d8 (R161). -/
def execCpi (d8 : Byte) (s : State) : Result := complete 2 (doAluImm .cmp d8) s

end Sys2Proof.Machine
end

