-- ==== Sys2Proof/Machine/Ports.lean ====
section
/-! DEFINITION. The I/O Port Controller (R270 to R279 of 60_exceptions.md). -/

namespace Sys2Proof.Machine

/-- `InputByte()` (R272). -/
def State.inputByte (c : Config) (s : State) : Byte := s.buttons ||| c.inputFixedMask

/-- `ShiftOut()` (R273): `((SH_HI * 256 + SH_LO) >> (8 - SH_OFF)) mod 256`. -/
def State.shiftOut (s : State) : Byte :=
  BitVec.ofNat 8 ((s.shHi.toNat * 256 + s.shLo.toNat) >>> (8 - s.shOff.toNat))

/-- `PortIn(p)` (R271, R274): it writes nothing (R279). -/
def State.portIn (c : Config) (s : State) (p : Byte) : Byte :=
  if p = c.portInInputs then s.inputByte c
  else if p = c.portInShift then s.shiftOut
  else 0

/-- `PortOut(p, v)` (R275 to R278). -/
def State.portOut (c : Config) (s : State) (p v : Byte) : State :=
  if p = c.portOutOffset then s.setShOff (v.extractLsb' 0 3)
  else if p = c.portOutData then s.setLatches v s.shHi
  else s

end Sys2Proof.Machine
end

