-- ==== Sys2Proof/Machine/StackIoControl.lean ====
section
/-! DEFINITION. The stack, input/output and machine control instructions (44_stack_io_control.md, R230 to R241): the operation of each form, then one meaning for each row. -/

namespace Sys2Proof.Machine

/-- R230: `Push16(pair(pp))`. -/
def doPush (p : RegPair) (s : State) : State := s.push16 (s.pair p)

/-- R231: `Push16(x[A] : FlagWord())`. -/
def doPushPsw (s : State) : State := s.push16 (Word.ofBytes (s.reg .a) s.flags.word)

/-- R232: `pair(pp) <- Pop16()`. -/
def doPop (p : RegPair) (s : State) : State := s.dropTop16.setPair p s.top16

/-- R233: `v = Pop16(); SetFlags(v[7:0]); x[A] <- v[15:8]`. -/
def doPopPsw (s : State) : State :=
  (s.dropTop16.setFlags (Flags.ofWord s.top16.lo)).setReg .a s.top16.hi

/-- R234: HL exchanged with the two bytes at SP, SP unchanged; both reads precede both writes. -/
def doXthl (s : State) : State := (s.write16 s.sp (s.pair .hl)).setPair .hl s.top16

/-- R235: `SP <- HL`. -/
def doSphl (s : State) : State := s.setSp (s.pair .hl)

/-- R236: `x[A] <- PortIn(p8)`. -/
def doIn (c : Config) (p8 : Byte) (s : State) : State := s.setReg .a (s.portIn c p8)

/-- R237: `PortOut(p8, x[A])`. -/
def doOut (c : Config) (p8 : Byte) (s : State) : State := s.portOut c p8 (s.reg .a)

/-- R238: `INTE <- 1`, at once (R41, D10). -/
def doEi (s : State) : State := s.setInte true

/-- R239: `INTE <- 0`. -/
def doDi (s : State) : State := s.setInte false

/-- R240: no state but `PC <- next`; the outcome Halt is `State.report` (Report.lean). There is no halted latch (R41). -/
def doHlt (s : State) : State := s

/-- R241: nothing. -/
def doNop (s : State) : State := s

/-- NOP (R241). -/
def execNop (s : State) : Result := complete 1 doNop s

/-- HLT (R240). -/
def execHlt (s : State) : Result := complete 1 doHlt s

/-- POP B (R232). -/
def execPopB (s : State) : Result := complete 1 (doPop .bc) s

/-- PUSH B (R230). -/
def execPushB (s : State) : Result := complete 1 (doPush .bc) s

/-- POP D (R232). -/
def execPopD (s : State) : Result := complete 1 (doPop .de) s

/-- OUT p8 (R237) under the parameters `c`. -/
def execOutPortWith (c : Config) (p8 : Byte) (s : State) : Result := complete 2 (doOut c p8) s

/-- OUT p8 (R237). -/
def execOutPort (p8 : Byte) (s : State) : Result := execOutPortWith config p8 s

/-- PUSH D (R230). -/
def execPushD (s : State) : Result := complete 1 (doPush .de) s

/-- IN p8 (R236) under the parameters `c`. -/
def execInPortWith (c : Config) (p8 : Byte) (s : State) : Result := complete 2 (doIn c p8) s

/-- IN p8 (R236). -/
def execInPort (p8 : Byte) (s : State) : Result := execInPortWith config p8 s

/-- POP H (R232). -/
def execPopH (s : State) : Result := complete 1 (doPop .hl) s

/-- XTHL (R234). -/
def execXthl (s : State) : Result := complete 1 doXthl s

/-- PUSH H (R230). -/
def execPushH (s : State) : Result := complete 1 (doPush .hl) s

/-- POP PSW (R233). -/
def execPopPsw (s : State) : Result := complete 1 doPopPsw s

/-- DI (R239). -/
def execDi (s : State) : Result := complete 1 doDi s

/-- PUSH PSW (R231). -/
def execPushPsw (s : State) : Result := complete 1 doPushPsw s

/-- SPHL (R235). -/
def execSphl (s : State) : Result := complete 1 doSphl s

/-- EI (R238). -/
def execEi (s : State) : Result := complete 1 doEi s

end Sys2Proof.Machine
end

