-- ==== Sys2Proof/Machine/Unimplemented.lean ====
section
/-! DEFINITION. The twelve unimplemented opcodes (R79 of 30_encoding.md, R250 to R252 of 60_exceptions.md): each raises `UnimplementedOpcode` with the address and the byte, and writes nothing. -/

namespace Sys2Proof.Machine

/-- The byte 0x08 (R250). -/
def execUnimplemented08 (s : State) : Result := raiseUnimplemented 0x08 s

/-- The byte 0x10 (R250). -/
def execUnimplemented10 (s : State) : Result := raiseUnimplemented 0x10 s

/-- The byte 0x18 (R250). -/
def execUnimplemented18 (s : State) : Result := raiseUnimplemented 0x18 s

/-- The byte 0x20 (R250). -/
def execUnimplemented20 (s : State) : Result := raiseUnimplemented 0x20 s

/-- The byte 0x28 (R250). -/
def execUnimplemented28 (s : State) : Result := raiseUnimplemented 0x28 s

/-- The byte 0x30 (R250). -/
def execUnimplemented30 (s : State) : Result := raiseUnimplemented 0x30 s

/-- The byte 0x38 (R250). -/
def execUnimplemented38 (s : State) : Result := raiseUnimplemented 0x38 s

/-- The byte 0xCB (R250). -/
def execUnimplementedCB (s : State) : Result := raiseUnimplemented 0xCB s

/-- The byte 0xD9 (R250). -/
def execUnimplementedD9 (s : State) : Result := raiseUnimplemented 0xD9 s

/-- The byte 0xDD (R250). -/
def execUnimplementedDD (s : State) : Result := raiseUnimplemented 0xDD s

/-- The byte 0xED (R250). -/
def execUnimplementedED (s : State) : Result := raiseUnimplemented 0xED s

/-- The byte 0xFD (R250). -/
def execUnimplementedFD (s : State) : Result := raiseUnimplemented 0xFD s

end Sys2Proof.Machine
end

