-- ==== Sys2Proof/Machine/FetchExecute.lean ====
section
/-! DEFINITION. Fetch and the step skeleton (R70 of 30_encoding.md). It stands here so that Step.lean only calls it. -/

namespace Sys2Proof.Machine

/-- The three bytes a step reads, at PC, PC+1 and PC+2 modulo 65536, unconditionally (R70). -/
def State.fetch (s : State) : Byte × Byte × Byte :=
  (s.read s.pc, s.read (s.pc + 1), s.read (s.pc + 2))

/-- The row the three fetched bytes stand for. -/
def State.fetched (s : State) : Instr := decodeOp s.fetch.1 s.fetch.2.1 s.fetch.2.2

/-- What a row does under the parameters `c`: the rows whose rule reads a parameter (R138, R139, R236, R237)
take it from `c`, every other row is `exec`. `execWith config` is `exec` (Laws/Step.lean). -/
def execWith (c : Config) (i : Instr) (s : State) : Result :=
  match i with
  | .dadB => execDadBWith c s
  | .dadD => execDadDWith c s
  | .dadH => execDadHWith c s
  | .dadSp => execDadSpWith c s
  | .daa => execDaaWith c s
  | .inPort p8 => execInPortWith c p8 s
  | .outPort p8 => execOutPortWith c p8 s
  | other => exec other s

/-- R70 under the parameters `c`: fetch, the `UNIMPL_SET` check, then the instruction. -/
def fetchExecute (c : Config) (s : State) : Result :=
  if c.unimplSet.contains s.fetch.1 then raiseUnimplemented s.fetch.1 s else execWith c s.fetched s

/-- The three bytes of the number `w` (bits above `nbits` zero) stored where the next step fetches. -/
def State.placeWord (s : State) (nbits w : Nat) : State :=
  ((s.write s.pc (tableByte nbits w 0)).write (s.pc + 1) (tableByte nbits w 1)).write (s.pc + 2)
    (tableByte nbits w 2)

end Sys2Proof.Machine
end

