-- ==== Sys2Proof/Machine/Step.lean ====
section
/-! DEFINITION. `Step()` (R7 of 00_scope.md, R70 of 30_encoding.md), and how a single instruction is placed for it. -/

namespace Sys2Proof.Machine

/-- One `Step()`: exactly one instruction, under the spec's default parameters. -/
def step (s : State) : Host.Outcome State Fault Refusal := fetchExecute config s

/-- `s` with one instruction stored at PC, so that the very next step runs it (log 16). -/
def State.withFetchWord (s : State) (nbits w : Nat) : State := s.placeWord nbits w

end Sys2Proof.Machine
end

