-- ==== Sys2Proof/Machine/Report.lean ====
section
/-! DEFINITION. What `Step()` reports to the host (R7 of 00_scope.md): Ok with the cost, Halt with the cost, or the fault. An output of the step, computed from the state the step starts from; no state depends on it (R299, R301 of 70_reset_and_hazards.md). -/

namespace Sys2Proof.Machine

/-- The three outcomes of R7. -/
inductive StepReport where
  | ok (cycles : Nat)
  | halt (cycles : Nat)
  | fault (pc : Word) (opcode : Byte)
  deriving DecidableEq, Repr

/-- Whether the condition of a conditional opcode holds; an unconditional one counts as holding (R82). -/
def State.taken (s : State) (op : Byte) : Bool :=
  match opCond op with
  | none => true
  | some k => s.flags.cond k

/-- The cost a step of the opcode reports (R82, R301). -/
def State.cost (c : Config) (s : State) : Nat := c.cycles s.fetch.1 (s.taken s.fetch.1)

/-- The opcode raises the fault: it is in `UNIMPL_SET`, or its row has no instruction. -/
def State.faults (c : Config) (s : State) : Bool :=
  c.unimplSet.contains s.fetch.1 || !s.fetched.wellFormed

/-- The outcome of `Step()` at `s` (R7, R240, R250). -/
def State.report (c : Config) (s : State) : StepReport :=
  if s.faults c then .fault s.pc s.fetch.1
  else if s.fetched = .hlt then .halt (s.cost c)
  else .ok (s.cost c)

end Sys2Proof.Machine
end

