-- ==== Sys2Proof/Machine/Boundary.lean ====
section
/-! DEFINITION. The host's transactions at the block's boundary (R5 to R11 of 00_scope.md): they happen only between steps. `load` before the first step, `dump` and video extraction (R66 to R68 of 20_memory.md), and a run of transactions with its end (R304 of 70_reset_and_hazards.md). -/

namespace Sys2Proof.Machine

/-- `load(bytes, baseAddress)` (R66): bytes beyond the 64 KB boundary are dropped, they do not wrap. -/
def State.load (s : State) (bytes : List Byte) (base : Nat) : State :=
  match bytes with
  | [] => s
  | v :: rest =>
    if base < 65536 then State.load (s.write (BitVec.ofNat 16 base) v) rest (base + 1) else s

/-- The count `load` returns (R66): `min(k, 65536 - baseAddress)`. -/
def loadCount (bytes : List Byte) (base : Nat) : Nat := min bytes.length (65536 - base)

/-- The state when stepping begins (R292): created, then every image loaded in order. -/
def bootState (c : Config) (images : List (List Byte × Nat)) : State :=
  images.foldl (fun s image => s.load image.1 image.2) (State.created c)

/-- A range of memory read between steps. DESIGN CHOICE (log 30): R11 and R68 do not say what a range that
runs past 0xFFFF reads; here it neither wraps nor is cut short, and each place from 65536 on reads as an
unlisted address does, 0x00 in every sound state. -/
def State.readRange (s : State) (base len : Nat) : List Byte :=
  (List.range len).map (fun i => s.mem.read (base + i))

/-- Video extraction (R68): the bytes of `REGION_VIDEO`, one bit a pixel for the renderer to expand. -/
def State.video (c : Config) (s : State) : List Byte := s.readRange c.regions.video.base.toNat c.regions.video.len

/-- `dump()` (R67): byte `i` of the result is `read(i)`. -/
def State.dump (s : State) : List Byte := s.readRange 0 65536

/-- A host transaction between steps, after the loads (R7, R8, R9). -/
inductive HostMove where
  | step
  | requestInterrupt (v : Fin 8)
  | setButtons (b : Byte)
  deriving DecidableEq, Repr

/-- Where a run of transactions stands (R304). -/
inductive RunStatus where
  /-- It goes on from this state. -/
  | running (s : State)
  /-- It ended normally, at a step whose outcome was Halt; the state after that step. -/
  | halted (s : State)
  /-- It ended in failure, at a step that faulted; nothing was written (R251), nothing more is defined (R252). -/
  | failed (r : Fault) (s : State)
  /-- A step had no meaning; no instruction of this model is without one. -/
  | unmodelled (r : Refusal) (s : State)
  deriving DecidableEq, Repr

/-- A step under the parameters `c` as the host sees it: its next state, marked halted when the outcome is Halt. -/
def hostStep (c : Config) (s : State) : RunStatus :=
  match fetchExecute c s with
  | .next t =>
    match s.report c with
    | .halt _ => .halted t
    | .ok _ => .running t
    | .fault _ _ => .running t
  | .fault r => .failed r s
  | .refused r => .unmodelled r s

/-- One transaction. -/
def transact (c : Config) (m : HostMove) (s : State) : RunStatus :=
  match m with
  | .step => hostStep c s
  | .requestInterrupt v => .running (s.requestInterrupt c v)
  | .setButtons b => .running (s.setButtons b)

/-- A run under the parameters `c` and the default host policy of R304: it ends at the first Halt or Fault.
DESIGN CHOICE (log 31): a request may be the first move, before any step, at the boundary of R292 (4) and R263;
R293 item 2 says that the first can come only after the first step. -/
def hostRun (c : Config) (moves : List HostMove) (s : State) : RunStatus :=
  match moves with
  | [] => .running s
  | m :: rest =>
    match transact c m s with
    | .running t => hostRun c rest t
    | .halted t => .halted t
    | .failed r t => .failed r t
    | .unmodelled r t => .unmodelled r t

end Sys2Proof.Machine
end

