-- ==== Sys2Proof/Safety.lean ====
section
/-! DEFINITION. What claims call a sound state and a safe run. -/

namespace Sys2Proof.Machine

/-- A sound state: memory in its canonical form (log 15). -/
def State.Sound (s : State) : Prop := s.mem.wf = true

/-- The status a sound run may have: the state it holds is sound. -/
def RunStatus.Sound : RunStatus → Prop
  | .running s => s.Sound
  | .halted s => s.Sound
  | .failed _ s => s.Sound
  | .unmodelled _ s => s.Sound

/-- Stepping `n` times from `s` meets no fault. -/
def SafeFor (n : Nat) (s : State) : Prop := ∃ t, Host.Core.run Sys2Proof.core n s = .next t

end Sys2Proof.Machine
end

