-- ==== Sys2Proof/Certificates/Slice0/Obligations.lean ====
section
/-! DEFINITION. The statements about the model, each a Prop for the provers. The definitions under Sys2Proof.Claims are the spec's formulas written as natural-number arithmetic and plain lists of forms, independent of the model's own functions. -/

namespace Sys2Proof.Claims

open Sys2Proof.Machine

/-- Z, S and P of a result byte `r` (R29 of 10_state.md, D28), with the given CY and AC. -/
def flagsOf (r : Nat) (cy ac : Bool) : Flags where
  z := decide (r = 0)
  s := decide (128 ≤ r)
  p := decide (((List.range 8).filter (fun i => r.testBit i)).length % 2 = 0)
  cy := cy
  ac := ac

/-- The value of a register or memory operand (R73 of 30_encoding.md, R23 of 10_state.md). -/
def operand (s : State) : Src → Nat
  | .reg r => (s.regs.get r).toNat
  | .m => (s.read s.hl).toNat

/-- CY as a number. -/
def carryIn (s : State) : Nat := if s.flags.cy then 1 else 0

/-- Next state of an accumulator operation whose exact result is `t`: A modulo 256, CY = AC = (t > 255) (R31). -/
def accResult (s : State) (len : Word) (t : Nat) : Result :=
  .next { s with
    pc := s.pc + len
    regs := { s.regs with a := BitVec.ofNat 8 (t % 256) }
    flags := flagsOf (t % 256) (decide (255 < t)) (decide (255 < t)) }

/-- The same for the exact difference `x - y`, with `y` at most 256: CY = AC = (x < y). -/
def accResultSub (s : State) (len : Word) (x y : Nat) : Result :=
  .next { s with
    pc := s.pc + len
    regs := { s.regs with a := BitVec.ofNat 8 ((x + 256 - y) % 256) }
    flags := flagsOf ((x + 256 - y) % 256) (decide (x < y)) (decide (x < y)) }

/-- A pair or SP as a number (R22, R74). -/
def rpValue (s : State) : Rp → Nat
  | .bc => 256 * s.regs.b.toNat + s.regs.c.toNat
  | .de => 256 * s.regs.d.toNat + s.regs.e.toNat
  | .hl => 256 * s.regs.h.toNat + s.regs.l.toNat
  | .sp => s.sp.toNat

/-- A number below 65536 put into a pair or SP, nothing else changed. -/
def putRp (s : State) (p : Rp) (n : Nat) : State :=
  match p with
  | .bc => { s with regs := { s.regs with b := BitVec.ofNat 8 (n / 256), c := BitVec.ofNat 8 (n % 256) } }
  | .de => { s with regs := { s.regs with d := BitVec.ofNat 8 (n / 256), e := BitVec.ofNat 8 (n % 256) } }
  | .hl => { s with regs := { s.regs with h := BitVec.ofNat 8 (n / 256), l := BitVec.ofNat 8 (n % 256) } }
  | .sp => { s with sp := BitVec.ofNat 16 n }

/-- The condition holds: the named flag has the expected value (R75). -/
def holds (s : State) : Cond → Bool
  | .nz => !s.flags.z
  | .z => s.flags.z
  | .nc => !s.flags.cy
  | .c => s.flags.cy
  | .po => !s.flags.p
  | .pe => s.flags.p
  | .p => !s.flags.s
  | .m => s.flags.s

/-- `i` completes, stores `v` at `addr` and no other byte, and changes nothing else but PC. -/
def StoresOne (i : Instr) (s : State) (len : Word) (addr : Word) (v : Byte) : Prop :=
  ∃ t, exec i s = .next t ∧ { t with mem := s.mem } = { s with pc := s.pc + len } ∧
    ∀ x : Word, t.read x = if x = addr then v else s.read x

/-- `i` completes, stores `w` at SP-1 (high) and SP-2 (low) and no other byte, lowers SP by 2, goes to `target`, and changes nothing else. -/
def PushesAndGoes (i : Instr) (s : State) (w target : Word) : Prop :=
  ∃ t, exec i s = .next t ∧
    { t with mem := s.mem } = { s with pc := target, sp := s.sp - 2 } ∧
    ∀ x : Word, t.read x =
      if x = s.sp - 1 then BitVec.ofNat 8 (w.toNat / 256)
      else if x = s.sp - 2 then BitVec.ofNat 8 (w.toNat % 256)
      else s.read x

/-- Next state of a rotate: A is `n`, CY the bit shifted out. -/
def rotated (s : State) (n : Nat) (out : Prop) [Decidable out] : Result :=
  .next { s with
    pc := s.pc + 1
    regs := { s.regs with a := BitVec.ofNat 8 n }
    flags := { s.flags with cy := decide out } }

/-- DAA's stage 1 fires (R139). -/
def stage1Fires (s : State) : Bool := decide (9 < s.regs.a.toNat % 16) || s.flags.ac

/-- The sum after DAA's stage 1, under `DAA_STAGE1_TRUNCATE`. -/
def stage1Sum (c : Config) (s : State) : Nat :=
  if stage1Fires s then
    (if c.daaStage1Truncate then (s.regs.a.toNat + 6) % 256 else s.regs.a.toNat + 6)
  else s.regs.a.toNat

/-- DAA's stage 2 fires. -/
def stage2Fires (c : Config) (s : State) : Bool := decide (9 < stage1Sum c s / 16) || s.flags.cy

/-- DAA's final byte. -/
def adjusted (c : Config) (s : State) : Nat :=
  (if stage2Fires c s then stage1Sum c s + 0x60 else stage1Sum c s) % 256

/-- Next state of DAA (R139), under `DAA_AC_RULE` and `DAA_STAGE1_TRUNCATE`. -/
def daaResult (c : Config) (s : State) : Result :=
  .next { s with
    pc := s.pc + 1
    regs := { s.regs with a := BitVec.ofNat 8 (adjusted c s) }
    flags := flagsOf (adjusted c s) (s.flags.cy || stage2Fires c s)
      (if stage1Fires s then
        (match c.daaAcRule with
          | .nibbleCarry => decide (16 ≤ s.regs.a.toNat % 16 + 6)
          | .set => true)
      else s.flags.ac) }

/-- Next state of DAD (R138, R33), under `DAD_WRITES_AC`. -/
def dadResult (c : Config) (p : Rp) (s : State) : Result :=
  .next { putRp { s with pc := s.pc + 1 } .hl ((rpValue s .hl + rpValue s p) % 65536) with
    flags := { s.flags with
      cy := decide (65535 < rpValue s .hl + rpValue s p)
      ac := if c.dadWritesAc then decide (65535 < rpValue s .hl + rpValue s p) else s.flags.ac } }

/-- Next state of IN (R236, R271 to R274), under the port numbers and the fixed mask. -/
def inResult (c : Config) (p8 : Byte) (s : State) : Result :=
  .next { s with pc := s.pc + 2, regs := { s.regs with
    a := if p8 = c.portInInputs then s.buttons ||| c.inputFixedMask
      else if p8 = c.portInShift then
        BitVec.ofNat 8 ((256 * s.shHi.toNat + s.shLo.toNat) / 2 ^ (8 - s.shOff.toNat))
      else 0#8 } }

/-- Next state of OUT (R237, R275 to R278), under the port numbers. -/
def outResult (c : Config) (p8 : Byte) (s : State) : Result :=
  .next (
    if p8 = c.portOutOffset then { s with pc := s.pc + 2, shOff := BitVec.ofNat 3 s.regs.a.toNat }
    else if p8 = c.portOutData then { s with pc := s.pc + 2, shHi := s.regs.a, shLo := s.shHi }
    else { s with pc := s.pc + 2 })

/-- The conditional jumps, calls and returns (R181 to R208). -/
def Conditional (i : Instr) : Prop :=
  (∃ k a, i = .mkJcc k a) ∨ (∃ k a, i = .mkCcc k a) ∨ (∃ k, i = .mkRcc k)

/-- The five-flag class, DAA and POP PSW (R30). -/
def WritesFiveFlags (i : Instr) : Prop :=
  (∃ op src, i = .mkAlu op src) ∨ (∃ op d8, i = .mkAluImm op d8) ∨ i = .daa ∨ i = .popPsw

/-- The Zero/Sign/Parity-only class (R30). -/
def WritesZsp (i : Instr) : Prop := (∃ dst, i = .mkInr dst) ∨ (∃ dst, i = .mkDcr dst)

/-- The Carry/AuxCarry-only class (R30). -/
def WritesCarryAc (i : Instr) : Prop := ∃ p, i = .mkDad p

/-- The instructions that redefine Carry alone (R30). -/
def WritesCarry (i : Instr) : Prop :=
  i = .rlc ∨ i = .rrc ∨ i = .ral ∨ i = .rar ∨ i = .cmc ∨ i = .stc

/-- The instructions that write memory (R57). -/
def StoresToMemory (i : Instr) : Prop :=
  (∃ r, i = .mkMovToM r) ∨ (∃ d8, i = .mkMvi .m d8) ∨ (∃ a, i = .sta a) ∨ (∃ p, i = .mkStax p) ∨
  i = .inrM ∨ i = .dcrM ∨ (∃ a, i = .shld a) ∨ (∃ p, i = .mkPush p) ∨ i = .pushPsw ∨
  (∃ a, i = .call a) ∨ (∃ k a, i = .mkCcc k a) ∨ (∃ n, i = .mkRst n) ∨ i = .xthl

/-- The instructions that write SP (R27). -/
def MovesSp (i : Instr) : Prop :=
  (∃ w, i = .lxiSp w) ∨ i = .inxSp ∨ i = .dcxSp ∨ i = .sphl ∨ (∃ p, i = .mkPush p) ∨ i = .pushPsw ∨
  (∃ p, i = .mkPop p) ∨ i = .popPsw ∨ (∃ a, i = .call a) ∨ (∃ k a, i = .mkCcc k a) ∨
  i = .ret ∨ (∃ k, i = .mkRcc k) ∨ (∃ n, i = .mkRst n)

/-- The control transfers (R26). -/
def TransfersControl (i : Instr) : Prop :=
  (∃ a, i = .jmp a) ∨ (∃ k a, i = .mkJcc k a) ∨ (∃ a, i = .call a) ∨ (∃ k a, i = .mkCcc k a) ∨
  i = .ret ∨ (∃ k, i = .mkRcc k) ∨ (∃ n, i = .mkRst n) ∨ i = .pchl

end Sys2Proof.Claims

open Sys2Proof Sys2Proof.Machine Sys2Proof.Claims

/-- Round trip of R77 (decoder) and R78 (encoder). The opcode map itself is the spec's decision D2 (log 1). -/
def Obligations.DecodeOfEncodeIsIdentity : Prop :=
  ∀ (i : Instr) (rest : List Byte), decode (encode i ++ rest) = .ok (i, rest)

/-- The other direction of the round trip: no bit of an instruction byte is dropped (R71, R77, R78; D2, log 1). -/
def Obligations.EncodeOfDecodeIsTheBytesRead : Prop :=
  ∀ op b2 b3 : Byte, encode (decodeOp op b2 b3) = [op, b2, b3].take (opLength op)

/-- R81 (and the three lengths of R71): `b2` and `b3` are operands only. -/
def Obligations.OpcodeByteAloneFixesLengthAndOperation : Prop :=
  ∀ op b2 b3 c2 c3 : Byte,
    (decodeOp op b2 b3).opcode = op ∧
    (decodeOp op b2 b3).length = opLength op ∧
    (decodeOp op b2 b3).opcode = (decodeOp op c2 c3).opcode ∧
    (decodeOp op b2 b3).length = (decodeOp op c2 c3).length ∧
    (opLength op = 1 ∨ opLength op = 2 ∨ opLength op = 3)

/-- Sanity: the encodings of R100, R105, R123, R161, R165, R192, R209, R231, R236, R240, R79 (D2, log 1). -/
def Obligations.SampleWordsDecodeAsTheMapSays : Prop :=
  decode [0b01000001#8] = .ok (.movBC, []) ∧
  decode [0b00100001#8, 0x34#8, 0x12#8] = .ok (.lxiH 0x1234#16, []) ∧
  decode [0b10001101#8] = .ok (.adcL, []) ∧
  decode [0b11111110#8, 0x40#8] = .ok (.cpi 0x40#8, []) ∧
  decode [0b00011111#8] = .ok (.rar, []) ∧
  decode [0b11001100#8, 0x00#8, 0x02#8] = .ok (.cz 0x0200#16, []) ∧
  decode [0b11010111#8] = .ok (.rst2, []) ∧
  decode [0b11110101#8] = .ok (.pushPsw, []) ∧
  decode [0b11011011#8, 0x03#8] = .ok (.inPort 0x03#8, []) ∧
  decode [0b01110110#8] = .ok (.hlt, []) ∧
  decode [0b00001000#8] = .ok (.unimplemented08, [])

/-- R70 (fetch, decode, execute), R13 (every parameter an argument); the fetch addresses wrap because they are 16-bit sums. exec does the `PC <- next` of R70 itself. -/
def Obligations.StepIsExecOfTheDecodedInstruction : Prop :=
  (∀ (s : State) (i : Instr) (rest : List Byte),
    decode [s.read s.pc, s.read (s.pc + 1), s.read (s.pc + 2)] = .ok (i, rest) →
    i.wellFormed = true → step s = exec i s) ∧
  (∀ (c : Config) (s : State) (i : Instr) (rest : List Byte),
    decode [s.read s.pc, s.read (s.pc + 1), s.read (s.pc + 2)] = .ok (i, rest) →
    c.unimplSet.contains (s.read s.pc) = false → fetchExecute c s = execWith c i s) ∧
  (∀ (i : Instr) (s : State), execWith config i s = exec i s) ∧
  (∀ s : State, fetchExecute config s = step s)

/-- R250: the outcome is `Fault(UnimplementedOpcode, pc, opcode)`. Which bytes are in the set is D3 (log 2). -/
def Obligations.UnimplementedOpcodeStopsTheStep : Prop :=
  (∀ s : State, config.unimplSet.contains (s.read s.pc) = true →
    step s = .fault (.unimplementedOpcode s.pc (s.read s.pc))) ∧
  (∀ (c : Config) (s : State), c.unimplSet.contains (s.read s.pc) = true →
    fetchExecute c s = .fault (.unimplementedOpcode s.pc (s.read s.pc)))

/-- R79, R250, R251, R253. The twelve values are D3, the unwritten state D4 (logs 2, 14). -/
def Obligations.UnimplementedRowsRaiseTheFault : Prop :=
  (∀ (i : Instr) (op : Byte) (s : State), i.unimplementedByte = some op →
    exec i s = .fault (.unimplementedOpcode s.pc op)) ∧
  (∀ i : Instr, i.wellFormed = !config.unimplSet.contains i.opcode) ∧
  (∀ (s : State) (r : Fault), step s = .fault r →
    r = .unimplementedOpcode s.pc (s.read s.pc) ∧ config.unimplSet.contains (s.read s.pc) = true)

/-- R253. Completion of every instruction, with no hypothesis on the state or the operands. -/
def Obligations.EverySupportedOpcodeIsTotal : Prop :=
  (∀ (i : Instr) (s : State), i.wellFormed = true → ∃ t, exec i s = .next t) ∧
  (∀ s : State, (∃ t, step s = .next t) ∨
    step s = .fault (.unimplementedOpcode s.pc (s.read s.pc)))

/-- R43, R44, R290. PC and INTE are parameters (D20, D12; logs 3, 4); `buttons` is no state of the spec and is not mentioned (log 12). -/
def Obligations.ResetStateIsZeroed : Prop :=
  (∀ c : Config, (∀ r : Reg, (State.created c).regs.get r = 0#8) ∧ (State.created c).sp = 0#16 ∧
    (State.created c).flags = { z := false, s := false, p := false, cy := false, ac := false } ∧
    (State.created c).shHi = 0#8 ∧ (State.created c).shLo = 0#8 ∧ (State.created c).shOff = 0#3 ∧
    (State.created c).pc = c.entryPc ∧ (State.created c).inte = c.inteReset ∧
    (∀ a : Word, (State.created c).read a = 0#8)) ∧
  State.reset = State.created config

/-- R13 and the table of R300. All are the spec's decisions, not the source's words (logs 2 to 10). FRAME_CYCLES and REGION_* are OPEN and have no default (log 29). -/
def Obligations.DefaultParameters : Prop :=
  config.unimplSet = [0x08#8, 0x10#8, 0x18#8, 0x20#8, 0x28#8, 0x30#8, 0x38#8, 0xCB#8, 0xD9#8, 0xDD#8, 0xED#8, 0xFD#8] ∧
  config.inteReset = true ∧ config.entryPc = 0#16 ∧
  config.portInInputs = 1#8 ∧ config.portInShift = 3#8 ∧
  config.portOutOffset = 2#8 ∧ config.portOutData = 4#8 ∧ config.inputFixedMask = 0x08#8 ∧
  config.dadWritesAc = true ∧ config.daaAcRule = .nibbleCarry ∧ config.daaStage1Truncate = true ∧
  (∀ v : Fin 8, config.vecAddr v = BitVec.ofNat 16 (8 * v.val)) ∧ config.wf ∧
  (∀ (dst src : Reg) (b : Bool), config.cycles (Instr.mkMov dst src).opcode b = 5) ∧
  (∀ (r : Reg) (b : Bool), config.cycles (Instr.mkMovFromM r).opcode b = 7) ∧
  (∀ (r : Reg) (b : Bool), config.cycles (Instr.mkMovToM r).opcode b = 7) ∧
  (∀ (r : Reg) (d8 : Byte) (b : Bool), config.cycles (Instr.mkMvi (.reg r) d8).opcode b = 7) ∧
  (∀ (d8 : Byte) (b : Bool), config.cycles (Instr.mkMvi .m d8).opcode b = 10) ∧
  (∀ (p : Rp) (d16 : Word) (b : Bool), config.cycles (Instr.mkLxi p d16).opcode b = 10) ∧
  (∀ (a16 : Word) (b : Bool), config.cycles (Instr.lda a16).opcode b = 13) ∧
  (∀ (a16 : Word) (b : Bool), config.cycles (Instr.sta a16).opcode b = 13) ∧
  (∀ (a16 : Word) (b : Bool), config.cycles (Instr.lhld a16).opcode b = 16) ∧
  (∀ (a16 : Word) (b : Bool), config.cycles (Instr.shld a16).opcode b = 16) ∧
  (∀ (p : IndPair) (b : Bool), config.cycles (Instr.mkLdax p).opcode b = 7) ∧
  (∀ (p : IndPair) (b : Bool), config.cycles (Instr.mkStax p).opcode b = 7) ∧
  (∀ (b : Bool), config.cycles (Instr.xchg).opcode b = 4) ∧
  (∀ (op : AluOp) (r : Reg) (b : Bool), config.cycles (Instr.mkAlu op (.reg r)).opcode b = 4) ∧
  (∀ (op : AluOp) (b : Bool), config.cycles (Instr.mkAlu op .m).opcode b = 7) ∧
  (∀ (op : AluOp) (d8 : Byte) (b : Bool), config.cycles (Instr.mkAluImm op d8).opcode b = 7) ∧
  (∀ (r : Reg) (b : Bool), config.cycles (Instr.mkInr (.reg r)).opcode b = 5) ∧
  (∀ (r : Reg) (b : Bool), config.cycles (Instr.mkDcr (.reg r)).opcode b = 5) ∧
  (∀ (b : Bool), config.cycles (Instr.inrM).opcode b = 10) ∧
  (∀ (b : Bool), config.cycles (Instr.dcrM).opcode b = 10) ∧
  (∀ (p : Rp) (b : Bool), config.cycles (Instr.mkInx p).opcode b = 5) ∧
  (∀ (p : Rp) (b : Bool), config.cycles (Instr.mkDcx p).opcode b = 5) ∧
  (∀ (p : Rp) (b : Bool), config.cycles (Instr.mkDad p).opcode b = 10) ∧
  (∀ (b : Bool), config.cycles (Instr.daa).opcode b = 4) ∧
  (∀ (b : Bool), config.cycles (Instr.rlc).opcode b = 4) ∧
  (∀ (b : Bool), config.cycles (Instr.rrc).opcode b = 4) ∧
  (∀ (b : Bool), config.cycles (Instr.ral).opcode b = 4) ∧
  (∀ (b : Bool), config.cycles (Instr.rar).opcode b = 4) ∧
  (∀ (b : Bool), config.cycles (Instr.cma).opcode b = 4) ∧
  (∀ (b : Bool), config.cycles (Instr.cmc).opcode b = 4) ∧
  (∀ (b : Bool), config.cycles (Instr.stc).opcode b = 4) ∧
  (∀ (b : Bool), config.cycles (Instr.nop).opcode b = 4) ∧
  (∀ (b : Bool), config.cycles (Instr.ei).opcode b = 4) ∧
  (∀ (b : Bool), config.cycles (Instr.di).opcode b = 4) ∧
  (∀ (a16 : Word) (b : Bool), config.cycles (Instr.jmp a16).opcode b = 10) ∧
  (∀ (k : Cond) (a16 : Word) (b : Bool), config.cycles (Instr.mkJcc k a16).opcode b = 10) ∧
  (∀ (a16 : Word) (b : Bool), config.cycles (Instr.call a16).opcode b = 17) ∧
  (∀ (k : Cond) (a16 : Word) (b : Bool), config.cycles (Instr.mkCcc k a16).opcode b = (if b then 17 else 11)) ∧
  (∀ (b : Bool), config.cycles (Instr.ret).opcode b = 10) ∧
  (∀ (k : Cond) (b : Bool), config.cycles (Instr.mkRcc k).opcode b = (if b then 11 else 5)) ∧
  (∀ (n : Fin 8) (b : Bool), config.cycles (Instr.mkRst n).opcode b = 11) ∧
  (∀ (b : Bool), config.cycles (Instr.pchl).opcode b = 5) ∧
  (∀ (p : RegPair) (b : Bool), config.cycles (Instr.mkPush p).opcode b = 11) ∧
  (∀ (b : Bool), config.cycles (Instr.pushPsw).opcode b = 11) ∧
  (∀ (p : RegPair) (b : Bool), config.cycles (Instr.mkPop p).opcode b = 10) ∧
  (∀ (b : Bool), config.cycles (Instr.popPsw).opcode b = 10) ∧
  (∀ (b : Bool), config.cycles (Instr.xthl).opcode b = 18) ∧
  (∀ (b : Bool), config.cycles (Instr.sphl).opcode b = 5) ∧
  (∀ (p8 : Byte) (b : Bool), config.cycles (Instr.inPort p8).opcode b = 10) ∧
  (∀ (p8 : Byte) (b : Bool), config.cycles (Instr.outPort p8).opcode b = 10) ∧
  (∀ (b : Bool), config.cycles (Instr.hlt).opcode b = 7)

/-- The base case of the invariant. The canonical form is the model's own representation (log 15). -/
def Obligations.ResetStateIsSound : Prop :=
  State.reset.Sound

/-- The invariant, from every sound state, not only along a run. The canonical form is the model's own (log 15); that stores stay inside the 65536 bytes is R50. -/
def Obligations.StepKeepsStateSound : Prop :=
  (∀ s t : State, s.Sound → step s = .next t → t.Sound) ∧
  (∀ (c : Config) (s t : State), s.Sound → fetchExecute c s = .next t → t.Sound)

/-- R5 to R9, R66, R257. The model's choices it rests on: requests are made at step boundaries only (log 13), the one before the first step included (log 31), the canonical form of memory (log 15), loads stand before the first step and are no move of a run (log 16), a run stops at Halt (log 25). -/
def Obligations.HostTransactionsKeepStateSound : Prop :=
  (∀ (c : Config) (images : List (List Byte × Nat)), (bootState c images).Sound) ∧
  (∀ (s : State) (bytes : List Byte) (base : Nat), s.Sound → (s.load bytes base).Sound) ∧
  (∀ (c : Config) (moves : List HostMove) (s : State), s.Sound → (hostRun c moves s).Sound)

/-- R50: memory is its 65536 bytes and nothing more. The canonical form is the model's own (log 15). -/
def Obligations.SoundMemoriesThatReadAlikeAreEqual : Prop :=
  ∀ s t : State, s.Sound → t.Sound → (∀ a : Word, s.read a = t.read a) → s.mem = t.mem

/-- R50. There is no exception: no address is protected, unmapped or device-backed. -/
def Obligations.ReadReturnsTheByteLastWritten : Prop :=
  (∀ (s : State) (a : Word) (v : Byte) (x : Word),
    (s.write a v).read x = if x = a then v else s.read x) ∧
  (∀ (s : State) (a : Word) (v : Byte), { s.write a v with mem := s.mem } = s) ∧
  (∀ a : Word, State.reset.read a = 0#8)

/-- R51 and R52. -/
def Obligations.TwoByteAccessesAreLittleEndianAndWrap : Prop :=
  ∀ (s : State) (a v : Word),
    s.read16 a = Word.ofBytes (s.read (a + 1)) (s.read a) ∧
    s.read16 0xFFFF#16 = Word.ofBytes (s.read 0#16) (s.read 0xFFFF#16) ∧
    (s.write16 a v).read a = BitVec.ofNat 8 v.toNat ∧
    (s.write16 a v).read (a + 1) = BitVec.ofNat 8 (v.toNat / 256) ∧
    (∀ x : Word, x ≠ a → x ≠ a + 1 → (s.write16 a v).read x = s.read x) ∧
    { s.write16 a v with mem := s.mem } = s

/-- R54. It has no limit and no fault. -/
def Obligations.PushStoresBelowTheStackPointer : Prop :=
  ∀ (s : State) (v : Word),
    (s.push16 v).sp = s.sp - 2 ∧
    (∀ x : Word, (s.push16 v).read x =
      if x = s.sp - 1 then v.hi else if x = s.sp - 2 then v.lo else s.read x) ∧
    { s.push16 v with mem := s.mem, sp := s.sp } = s ∧
    (s.sp = 0#16 → (s.push16 v).read 0xFFFF#16 = v.hi ∧ (s.push16 v).read 0xFFFE#16 = v.lo ∧
      (s.push16 v).sp = 0xFFFE#16)

/-- R55. -/
def Obligations.PopReturnsWhatWasPushed : Prop :=
  ∀ (s : State) (v : Word),
    s.top16 = Word.ofBytes (s.read (s.sp + 1)) (s.read s.sp) ∧
    s.dropTop16 = { s with sp := s.sp + 2 } ∧
    (s.push16 v).top16 = v ∧ (s.push16 v).dropTop16.sp = s.sp

/-- R66. The model offers it only for the state before the first step (log 16). -/
def Obligations.LoadStopsAtTheEndOfMemory : Prop :=
  ∀ (s : State) (bytes : List Byte) (base : Nat),
    (∀ a : Word, (s.load bytes base).read a =
      if base ≤ a.toNat ∧ a.toNat < base + bytes.length then bytes.getD (a.toNat - base) 0#8
      else s.read a) ∧
    { s.load bytes base with mem := s.mem } = s ∧
    loadCount bytes base = min bytes.length (65536 - base)

/-- R67, and the range read of R68, whose range is the OPEN parameter REGION_VIDEO (log 29). The length clause has no bound: that a range past 0xFFFF is not cut short is the model's DESIGN CHOICE of log 30, no rule of the spec. Which bytes such a range gives from 65536 on is not stated. -/
def Obligations.DumpReturnsEveryByte : Prop :=
  (∀ s : State, s.dump.length = 65536 ∧ ∀ a : Word, s.dump[a.toNat]? = some (s.read a)) ∧
  (∀ (s : State) (base len : Nat), (s.readRange base len).length = len ∧
    ∀ i : Nat, i < len → base + i < 65536 →
      (s.readRange base len)[i]? = some (s.read (BitVec.ofNat 16 (base + i)))) ∧
  (∀ (c : Config) (s : State), s.video c = s.readRange c.regions.video.base.toNat c.regions.video.len)

/-- R20 and R22 (independently addressable; high-register:low-register packing). The names and which register is high are D1 (log 1). -/
def Obligations.RegistersAreIndependent : Prop :=
  (∀ (x : Regs) (r r' : Reg) (v : Byte), (x.set r v).get r' = if r' = r then v else x.get r') ∧
  (∀ s : State, s.pair .bc = s.regs.b ++ s.regs.c ∧ s.pair .de = s.regs.d ++ s.regs.e ∧
    s.pair .hl = s.regs.h ++ s.regs.l ∧ s.hl = s.regs.h ++ s.regs.l) ∧
  (∀ (s : State) (v : Word),
    s.setPair .bc v = { s with regs := { s.regs with b := v.hi, c := v.lo } } ∧
    s.setPair .de v = { s with regs := { s.regs with d := v.hi, e := v.lo } } ∧
    s.setPair .hl v = { s with regs := { s.regs with h := v.hi, l := v.lo } })

/-- R100, R103, R105, R112 (identities D2, log 1). Result, completion and frame in one: the next state is written out whole. -/
def Obligations.RegisterMovesAndImmediateLoads : Prop :=
  (∀ (dst src : Reg) (s : State), exec (.mkMov dst src) s =
    .next { s with pc := s.pc + 1, regs := s.regs.set dst (s.regs.get src) }) ∧
  (∀ (dst : Reg) (d8 : Byte) (s : State), exec (.mkMvi (.reg dst) d8) s =
    .next { s with pc := s.pc + 2, regs := s.regs.set dst d8 }) ∧
  (∀ (p : Rp) (d16 : Word) (s : State), exec (.mkLxi p d16) s =
    .next (putRp { s with pc := s.pc + 3 } p d16.toNat)) ∧
  (∀ s : State, exec .xchg s =
    .next { s with pc := s.pc + 1, regs := { s.regs with h := s.regs.d, l := s.regs.e, d := s.regs.h, e := s.regs.l } })

/-- R101, R106, R108, R110 (identities D2; the byte order of LHLD is general knowledge, log 26). -/
def Obligations.MemoryLoads : Prop :=
  (∀ (dst : Reg) (s : State), exec (.mkMovFromM dst) s =
    .next { s with pc := s.pc + 1, regs := s.regs.set dst (s.read s.hl) }) ∧
  (∀ (a16 : Word) (s : State), exec (.lda a16) s =
    .next { s with pc := s.pc + 3, regs := { s.regs with a := s.read a16 } }) ∧
  (∀ s : State, exec .ldaxB s =
    .next { s with pc := s.pc + 1, regs := { s.regs with a := s.read (s.regs.b ++ s.regs.c) } }) ∧
  (∀ s : State, exec .ldaxD s =
    .next { s with pc := s.pc + 1, regs := { s.regs with a := s.read (s.regs.d ++ s.regs.e) } }) ∧
  (∀ (a16 : Word) (s : State), exec (.lhld a16) s =
    .next { s with pc := s.pc + 3, regs := { s.regs with l := s.read a16, h := s.read (a16 + 1) } })

/-- R102, R104, R107, R109, R111 (identities D2; the byte order of SHLD is general knowledge, log 26). -/
def Obligations.MemoryStores : Prop :=
  (∀ (src : Reg) (s : State), StoresOne (.mkMovToM src) s 1 s.hl (s.regs.get src)) ∧
  (∀ (d8 : Byte) (s : State), StoresOne (.mkMvi .m d8) s 2 s.hl d8) ∧
  (∀ (a16 : Word) (s : State), StoresOne (.sta a16) s 3 a16 s.regs.a) ∧
  (∀ (p : IndPair) (s : State), StoresOne (.mkStax p) s 1 (s.indAddr p) s.regs.a) ∧
  (∀ (a16 : Word) (s : State), ∃ t, exec (.shld a16) s = .next t ∧
    { t with mem := s.mem } = { s with pc := s.pc + 3 } ∧
    ∀ x : Word, t.read x =
      if x = a16 + 1 then s.regs.h else if x = a16 then s.regs.l else s.read x)

/-- R120 to R131 with R31, as natural-number arithmetic. Carry-in inside the tested intermediate is D24, the formulas of Z, S, P are D28 (logs 19, 18). -/
def Obligations.AddAndSubtractResults : Prop :=
  (∀ (src : Src) (s : State),
    exec (.mkAlu .add src) s = accResult s 1 (s.regs.a.toNat + operand s src) ∧
    exec (.mkAlu .adc src) s = accResult s 1 (s.regs.a.toNat + operand s src + carryIn s) ∧
    exec (.mkAlu .sub src) s = accResultSub s 1 s.regs.a.toNat (operand s src) ∧
    exec (.mkAlu .sbb src) s = accResultSub s 1 s.regs.a.toNat (operand s src + carryIn s)) ∧
  (∀ (d8 : Byte) (s : State),
    exec (.adi d8) s = accResult s 2 (s.regs.a.toNat + d8.toNat) ∧
    exec (.aci d8) s = accResult s 2 (s.regs.a.toNat + d8.toNat + carryIn s) ∧
    exec (.sui d8) s = accResultSub s 2 s.regs.a.toNat d8.toNat ∧
    exec (.sbi d8) s = accResultSub s 2 s.regs.a.toNat (d8.toNat + carryIn s))

/-- R132, R134. The formulas of Z, S, P are D28 (log 18). -/
def Obligations.IncrementAndDecrementOfARegister : Prop :=
  ∀ (r : Reg) (s : State),
    exec (.mkInr (.reg r)) s = .next { s with
      pc := s.pc + 1
      regs := s.regs.set r (BitVec.ofNat 8 (((s.regs.get r).toNat + 1) % 256))
      flags := flagsOf (((s.regs.get r).toNat + 1) % 256) s.flags.cy s.flags.ac } ∧
    exec (.mkDcr (.reg r)) s = .next { s with
      pc := s.pc + 1
      regs := s.regs.set r (BitVec.ofNat 8 (((s.regs.get r).toNat + 255) % 256))
      flags := flagsOf (((s.regs.get r).toNat + 255) % 256) s.flags.cy s.flags.ac }

/-- R133, R135. The formulas of Z, S, P are D28 (log 18). -/
def Obligations.IncrementAndDecrementOfMemory : Prop :=
  ∀ s : State,
    (∃ t, exec .inrM s = .next t ∧
      { t with mem := s.mem } = { s with
        pc := s.pc + 1
        flags := flagsOf (((s.read s.hl).toNat + 1) % 256) s.flags.cy s.flags.ac } ∧
      ∀ x : Word, t.read x =
        if x = s.hl then BitVec.ofNat 8 (((s.read s.hl).toNat + 1) % 256) else s.read x) ∧
    (∃ t, exec .dcrM s = .next t ∧
      { t with mem := s.mem } = { s with
        pc := s.pc + 1
        flags := flagsOf (((s.read s.hl).toNat + 255) % 256) s.flags.cy s.flags.ac } ∧
      ∀ x : Word, t.read x =
        if x = s.hl then BitVec.ofNat 8 (((s.read s.hl).toNat + 255) % 256) else s.read x)

/-- R136, R137, R138 with R33. That DAD writes AC is the parameter of D6 (log 7). -/
def Obligations.PairIncrementDecrementAndAdd : Prop :=
  ∀ (p : Rp) (s : State),
    exec (.mkInx p) s = .next (putRp { s with pc := s.pc + 1 } p ((rpValue s p + 1) % 65536)) ∧
    exec (.mkDcx p) s = .next (putRp { s with pc := s.pc + 1 } p ((rpValue s p + 65535) % 65536)) ∧
    exec (.mkDad p) s = dadResult config p s ∧
    (∀ c : Config, execWith c (.mkDad p) s = dadResult c p s)

/-- R139. What "accordingly" means and the truncation are D7 and D8 (log 8). -/
def Obligations.DecimalAdjustTwoStages : Prop :=
  ∀ s : State, exec .daa s = daaResult config s ∧ ∀ c : Config, execWith c .daa s = daaResult c s

/-- R139 and the source's example S1; under the default parameters (log 8). -/
def Obligations.DecimalAdjustOfValidDigitsAndCarry : Prop :=
  ∀ s : State, ∃ t, exec .daa s = .next t ∧
    (s.flags.cy = true → t.flags.cy = true) ∧
    (s.flags.cy = false → s.flags.ac = false → s.regs.a.toNat % 16 ≤ 9 → s.regs.a.toNat / 16 ≤ 9 →
      t.regs.a = s.regs.a ∧ t.flags.cy = false) ∧
    (s.flags.cy = false → s.flags.ac = false → s.regs.a = 0x9B#8 →
      t.regs.a = 0x01#8 ∧ t.flags.cy = true)

/-- R150 to R158; CY = AC = 0 is R32. The formulas of Z, S, P are D28 (log 18). -/
def Obligations.LogicalResultsClearCarry : Prop :=
  (∀ (src : Src) (s : State),
    exec (.mkAlu .ana src) s = accResult s 1 (s.regs.a.toNat &&& operand s src) ∧
    exec (.mkAlu .xra src) s = accResult s 1 (s.regs.a.toNat ^^^ operand s src) ∧
    exec (.mkAlu .ora src) s = accResult s 1 (s.regs.a.toNat ||| operand s src)) ∧
  (∀ (d8 : Byte) (s : State),
    exec (.ani d8) s = accResult s 2 (s.regs.a.toNat &&& d8.toNat) ∧
    exec (.xri d8) s = accResult s 2 (s.regs.a.toNat ^^^ d8.toNat) ∧
    exec (.ori d8) s = accResult s 2 (s.regs.a.toNat ||| d8.toNat)) ∧
  (∀ a v : Byte, a.toNat &&& v.toNat ≤ 255 ∧ a.toNat ^^^ v.toNat ≤ 255 ∧ a.toNat ||| v.toNat ≤ 255)

/-- R159, R160, R161. That compare is a subtraction in the five-flag class is the spec's decision D5 (log 17). -/
def Obligations.CompareSetsFlagsOnly : Prop :=
  (∀ (src : Src) (s : State), exec (.mkAlu .cmp src) s = .next { s with
      pc := s.pc + 1
      flags := { flagsOf ((s.regs.a.toNat + 256 - operand s src) % 256)
          (decide (s.regs.a.toNat < operand s src)) (decide (s.regs.a.toNat < operand s src)) with
        z := decide (s.regs.a.toNat = operand s src) } }) ∧
  (∀ (d8 : Byte) (s : State), exec (.cpi d8) s = .next { s with
      pc := s.pc + 2
      flags := { flagsOf ((s.regs.a.toNat + 256 - d8.toNat) % 256)
          (decide (s.regs.a.toNat < d8.toNat)) (decide (s.regs.a.toNat < d8.toNat)) with
        z := decide (s.regs.a.toNat = d8.toNat) } })

/-- R162 to R165, as arithmetic on A. Which rotate goes which way is D25 (log 21). -/
def Obligations.RotatesAsArithmetic : Prop :=
  ∀ s : State,
    exec .rlc s = rotated s (2 * s.regs.a.toNat % 256 + s.regs.a.toNat / 128) (128 ≤ s.regs.a.toNat) ∧
    exec .rrc s = rotated s (s.regs.a.toNat / 2 + 128 * (s.regs.a.toNat % 2)) (s.regs.a.toNat % 2 = 1) ∧
    exec .ral s = rotated s (2 * s.regs.a.toNat % 256 + carryIn s) (128 ≤ s.regs.a.toNat) ∧
    exec .rar s = rotated s (s.regs.a.toNat / 2 + 128 * carryIn s) (s.regs.a.toNat % 2 = 1)

/-- R166, R167, R168. Their flags are the spec's decision D9 (log 20). -/
def Obligations.ComplementAndCarryInstructions : Prop :=
  ∀ s : State,
    exec .cma s = .next { s with pc := s.pc + 1, regs := { s.regs with a := BitVec.ofNat 8 (255 - s.regs.a.toNat) } } ∧
    exec .cmc s = .next { s with pc := s.pc + 1, flags := { s.flags with cy := !s.flags.cy } } ∧
    exec .stc s = .next { s with pc := s.pc + 1, flags := { s.flags with cy := true } }

/-- R179, R180 to R188, R210; the conditions are those of R75 (codes and names D2, log 1). -/
def Obligations.JumpsSetOnlyThePc : Prop :=
  (∀ (a16 : Word) (s : State), exec (.jmp a16) s = .next { s with pc := a16 }) ∧
  (∀ (k : Cond) (a16 : Word) (s : State), exec (.mkJcc k a16) s =
    .next { s with pc := if holds s k then a16 else s.pc + 3 }) ∧
  (∀ s : State, exec .pchl s = .next { s with pc := s.regs.h ++ s.regs.l })

/-- R179, R190 to R198, R209. RST is the spec's decision D16 (log 23). -/
def Obligations.CallsPushTheReturnAddress : Prop :=
  (∀ (a16 : Word) (s : State), PushesAndGoes (.call a16) s (s.pc + 3) a16) ∧
  (∀ (k : Cond) (a16 : Word) (s : State), holds s k = true → PushesAndGoes (.mkCcc k a16) s (s.pc + 3) a16) ∧
  (∀ (k : Cond) (a16 : Word) (s : State), holds s k = false → exec (.mkCcc k a16) s = .next { s with pc := s.pc + 3 }) ∧
  (∀ (n : Fin 8) (s : State), PushesAndGoes (.mkRst n) s (s.pc + 1) (BitVec.ofNat 16 (8 * n.val)))

/-- R179, R200 to R208. -/
def Obligations.ReturnsPopThePc : Prop :=
  (∀ s : State, exec .ret s =
    .next { s with pc := s.read (s.sp + 1) ++ s.read s.sp, sp := s.sp + 2 }) ∧
  (∀ (k : Cond) (s : State), exec (.mkRcc k) s =
    .next (if holds s k then { s with pc := s.read (s.sp + 1) ++ s.read s.sp, sp := s.sp + 2 }
      else { s with pc := s.pc + 1 }))

/-- The source's testable property S4 (A is the address of the CALL, C8), R190 with R200. -/
def Obligations.CallThenReturnResumesAfterTheCall : Prop :=
  ∀ (a16 : Word) (s : State), ∃ t u, exec (.call a16) s = .next t ∧ exec .ret t = .next u ∧
    u.pc = s.pc + 3 ∧ u.sp = s.sp ∧ u.regs = s.regs ∧ u.flags = s.flags

/-- R34. -/
def Obligations.FlagWordPackingAndUnpacking : Prop :=
  (∀ f : Flags, f.word.toNat =
    128 * f.s.toNat + 64 * f.z.toNat + 16 * f.ac.toNat + 4 * f.p.toNat + 2 + f.cy.toNat) ∧
  (∀ b : Byte, Flags.ofWord b = { cy := b.toNat.testBit 0, p := b.toNat.testBit 2, ac := b.toNat.testBit 4, z := b.toNat.testBit 6, s := b.toNat.testBit 7 }) ∧
  (∀ f : Flags, Flags.ofWord f.word = f) ∧
  (∀ f : Flags, 0x02 ≤ f.word.toNat ∧ f.word.toNat ≤ 0xD7)

/-- R230, R231. That A is the high byte of PSW is the spec's decision D23 (log 22). -/
def Obligations.PushInstructions : Prop :=
  (∀ (p : RegPair) (s : State), PushesAndGoes (.mkPush p) s (s.pair p) (s.pc + 1)) ∧
  (∀ s : State, PushesAndGoes .pushPsw s (s.regs.a ++ s.flags.word) (s.pc + 1))

/-- R232, R233. That A is the high byte of PSW is the spec's decision D23 (log 22). -/
def Obligations.PopInstructions : Prop :=
  (∀ (p : RegPair) (s : State), exec (.mkPop p) s =
    .next { s with
      pc := s.pc + 1
      sp := s.sp + 2
      regs := (s.regs.set (pairHi p) (s.read (s.sp + 1))).set (pairLo p) (s.read s.sp) }) ∧
  (∀ s : State, exec .popPsw s =
    .next { s with
      pc := s.pc + 1
      sp := s.sp + 2
      regs := { s.regs with a := s.read (s.sp + 1) }
      flags := {
        cy := (s.read s.sp).getLsbD 0
        p := (s.read s.sp).getLsbD 2
        ac := (s.read s.sp).getLsbD 4
        z := (s.read s.sp).getLsbD 6
        s := (s.read s.sp).getLsbD 7 } })

/-- The source's testable property S5, R230 to R233. -/
def Obligations.PushThenPopRestoresTheRegisters : Prop :=
  (∀ (p : RegPair) (s : State) (x : Regs) (f : Flags), ∃ t u, exec (.mkPush p) s = .next t ∧
    exec (.mkPop p) { t with regs := x, flags := f } = .next u ∧ u.pair p = s.pair p ∧ u.sp = s.sp) ∧
  (∀ (s : State) (x : Regs) (f : Flags), ∃ t u, exec .pushPsw s = .next t ∧
    exec .popPsw { t with regs := x, flags := f } = .next u ∧
    u.regs.a = s.regs.a ∧ u.flags = s.flags ∧ u.sp = s.sp)

/-- R234, R235 (identities D2, log 1). -/
def Obligations.ExchangeWithTheStackTopAndSphl : Prop :=
  (∀ s : State, ∃ t, exec .xthl s = .next t ∧
    { t with mem := s.mem } = { s with
      pc := s.pc + 1, regs := { s.regs with h := s.read (s.sp + 1), l := s.read s.sp } } ∧
    ∀ x : Word, t.read x =
      if x = s.sp + 1 then s.regs.h else if x = s.sp then s.regs.l else s.read x) ∧
  (∀ s : State, exec .sphl s = .next { s with pc := s.pc + 1, sp := s.regs.h ++ s.regs.l })

/-- R236, R237 with R271 to R278. The port numbers and the fixed mask are the parameters of D13 and D14 (logs 5, 6). -/
def Obligations.InAndOutInstructions : Prop :=
  ∀ (p8 : Byte) (s : State),
    exec (.inPort p8) s = inResult config p8 s ∧ exec (.outPort p8) s = outResult config p8 s ∧
    ∀ c : Config, execWith c (.inPort p8) s = inResult c p8 s ∧ execWith c (.outPort p8) s = outResult c p8 s

/-- R238 to R241 with R257 and R259. The immediate effect is the spec's decision D10, the PC past HLT D11 (logs 24, 11). -/
def Obligations.MachineControlInstructions : Prop :=
  (∀ s : State,
    exec .ei s = .next { s with pc := s.pc + 1, inte := true } ∧
    exec .di s = .next { s with pc := s.pc + 1, inte := false } ∧
    exec .hlt s = .next { s with pc := s.pc + 1 } ∧
    exec .nop s = .next { s with pc := s.pc + 1 }) ∧
  (∀ (c : Config) (v : Fin 8) (s : State), ∃ t, exec .ei s = .next t ∧
    (t.requestInterrupt c v).pc = c.vecAddr v) ∧
  (∀ (c : Config) (v : Fin 8) (s : State), ∃ t, exec .di s = .next t ∧ t.requestInterrupt c v = t)

/-- R273, with its bit-slice reading and the source's test (S2). -/
def Obligations.ShifterReadIsAWindowOfTheLatches : Prop :=
  (∀ s : State, s.shiftOut.toNat =
    ((s.shHi.toNat * 256 + s.shLo.toNat) / 2 ^ (8 - s.shOff.toNat)) % 256) ∧
  (∀ (s : State) (i : Nat), i < 8 →
    s.shiftOut.getLsbD i = (Word.ofBytes s.shHi s.shLo).getLsbD (8 - s.shOff.toNat + i)) ∧
  (∀ s : State, s.shOff = 0#3 → s.shiftOut = s.shHi) ∧
  (∀ s : State, s.shOff = 7#3 → s.shiftOut.toNat = 128 * (s.shHi.toNat % 2) + s.shLo.toNat / 2) ∧
  (∀ s : State, 1 ≤ 8 - s.shOff.toNat ∧ 8 - s.shOff.toNat ≤ 8) ∧
  (∀ s : State, s.shHi = 0xAA#8 → s.shLo = 0xFF#8 → s.shOff = 4#3 → s.shiftOut = 0xAF#8) ∧
  (∀ s : State, (((s.portOut config config.portOutData 0xFF#8).portOut config config.portOutData 0xAA#8).portOut
    config config.portOutOffset 0x04#8).portIn config config.portInShift = 0xAF#8)

/-- R271, R274. The numbers are parameters (D13, log 5): the statement holds for every choice of them. -/
def Obligations.PortReadsByNumber : Prop :=
  ∀ (c : Config) (s : State) (p : Byte),
    (p = c.portInInputs → s.portIn c p = s.inputByte c) ∧
    (p ≠ c.portInInputs → p = c.portInShift → s.portIn c p = s.shiftOut) ∧
    (p ≠ c.portInInputs → p ≠ c.portInShift → s.portIn c p = 0x00#8)

/-- R272 for any mask; the mask 0x08 is the parameter of D14 (log 6). -/
def Obligations.InputByteHasItsFixedBit : Prop :=
  (∀ (c : Config) (s : State) (i : Nat), (s.inputByte c).getLsbD i =
    (s.buttons.getLsbD i || c.inputFixedMask.getLsbD i)) ∧
  (∀ s : State, (s.inputByte config).getLsbD 3 = true ∧
    (s.buttons.getLsbD 3 = false → (s.inputByte config).toNat = s.buttons.toNat + 8))

/-- R275 to R278. The numbers are parameters (D13, log 5): the statement holds for every choice of them. -/
def Obligations.PortWritesByNumber : Prop :=
  ∀ (c : Config) (s : State) (p v w : Byte),
    (p = c.portOutOffset → s.portOut c p v = { s with shOff := BitVec.ofNat 3 (v.toNat % 8) }) ∧
    (p ≠ c.portOutOffset → p = c.portOutData →
      s.portOut c p v = { s with shHi := v, shLo := s.shHi } ∧
      (s.portOut c p v).portOut c p w = { s with shHi := w, shLo := v }) ∧
    (p ≠ c.portOutOffset → p ≠ c.portOutData → s.portOut c p v = s)

/-- R257, for every setting of the parameters; the whole state after it is written out. It answers no cost (D26, log 10). -/
def Obligations.InterruptDelivery : Prop :=
  ∀ (c : Config) (v : Fin 8) (s : State),
    (s.inte = true →
      { s.requestInterrupt c v with mem := s.mem } =
        { s with pc := c.vecAddr v, sp := s.sp - 2, inte := false } ∧
      ∀ x : Word, (s.requestInterrupt c v).read x =
        if x = s.sp - 1 then s.pc.hi else if x = s.sp - 2 then s.pc.lo else s.read x) ∧
    (s.inte = false → s.requestInterrupt c v = s)

/-- R258. The targets other than those of vectors 1 and 2 are the parameter of D15 (log 9). -/
def Obligations.InterruptVectorAddresses : Prop :=
  ∀ s : State, s.inte = true →
    (s.requestInterrupt config 1).pc = 0x0008#16 ∧ (s.requestInterrupt config 2).pc = 0x0010#16 ∧
    ∀ v : Fin 8, (s.requestInterrupt config v).pc.toNat = 8 * v.val

/-- R257 (the source's own test), R259, R261. -/
def Obligations.SecondRequestIsDropped : Prop :=
  ∀ (c : Config) (v w : Fin 8) (s : State),
    (s.requestInterrupt c v).requestInterrupt c w = s.requestInterrupt c v ∧
    exec .ei ((s.requestInterrupt c v).requestInterrupt c w) = exec .ei (s.requestInterrupt c v) ∧
    (s.requestInterrupt c v).inte = false

/-- R265, R266: the handler returns with RET, which does not change INTE. -/
def Obligations.ReturnFromHandlerResumes : Prop :=
  ∀ (c : Config) (v : Fin 8) (s : State), s.inte = true →
    (∃ u, exec .ret (s.requestInterrupt c v) = .next u ∧ u.pc = s.pc ∧ u.sp = s.sp ∧
      u.regs = s.regs ∧ u.flags = s.flags ∧ u.inte = false) ∧
    (∃ t u, exec .ei (s.requestInterrupt c v) = .next t ∧ exec .ret t = .next u ∧
      u.pc = s.pc ∧ u.sp = s.sp ∧ u.inte = true)

/-- R36, R37, R38, R39 and R9, over all 256 opcodes. -/
def Obligations.ControlStateIsWrittenByItsInstructionsOnly : Prop :=
  ∀ s t : State, step s = .next t →
    (t.inte ≠ s.inte → (s.fetched = .ei ∧ t.inte = true) ∨ (s.fetched = .di ∧ t.inte = false)) ∧
    ((∀ p8, s.fetched ≠ .outPort p8) → t.shHi = s.shHi ∧ t.shLo = s.shLo ∧ t.shOff = s.shOff) ∧
    t.buttons = s.buttons

/-- R30, the flag-affect classes (the assignment of mnemonics is D2, compare D5, DAD D6; logs 1, 17, 7). -/
def Obligations.FlagsAreWrittenByTheirClassesOnly : Prop :=
  ∀ (i : Instr) (s t : State), exec i s = .next t →
    (t.flags ≠ s.flags → WritesFiveFlags i ∨ WritesZsp i ∨ WritesCarryAc i ∨ WritesCarry i) ∧
    (t.flags.z ≠ s.flags.z ∨ t.flags.s ≠ s.flags.s ∨ t.flags.p ≠ s.flags.p →
      WritesFiveFlags i ∨ WritesZsp i) ∧
    (t.flags.cy ≠ s.flags.cy → WritesFiveFlags i ∨ WritesCarryAc i ∨ WritesCarry i) ∧
    (t.flags.ac ≠ s.flags.ac → WritesFiveFlags i ∨ WritesCarryAc i)

/-- R57 (the writing rows) and R27. -/
def Obligations.MemoryAndSpAreWrittenByTheirInstructionsOnly : Prop :=
  ∀ (i : Instr) (s t : State), exec i s = .next t →
    ((∃ a : Word, t.read a ≠ s.read a) → StoresToMemory i) ∧ (t.sp ≠ s.sp → MovesSp i)

/-- R26. The conditional forms that are not taken do so too (R179, stated with their families). -/
def Obligations.PcMovesPastTheInstruction : Prop :=
  ∀ (i : Instr) (s t : State), exec i s = .next t → ¬ TransfersControl i →
    t.pc.toNat = (s.pc.toNat + i.length) % 65536

/-- R7, R240, R250. That Halt is a report and no state is R41 and D11 (log 11). -/
def Obligations.ReportAgreesWithTheStep : Prop :=
  ∀ s : State,
    (∀ pc op, s.report config = .fault pc op ↔ step s = .fault (.unimplementedOpcode pc op)) ∧
    ((∃ n, s.report config = .halt n) ↔ s.fetched = .hlt) ∧
    (∀ n, s.report config = .ok n → ∃ t, step s = .next t) ∧
    ∀ c : Config,
      (∀ pc op, s.report c = .fault pc op ↔ fetchExecute c s = .fault (.unimplementedOpcode pc op)) ∧
      ((∃ n, s.report c = .halt n) ↔ s.fetched = .hlt ∧ c.unimplSet.contains (s.read s.pc) = false) ∧
      (∀ n, s.report c = .ok n ∨ s.report c = .halt n → ∃ t, fetchExecute c s = .next t)

/-- R300, R301. The numbers are the parameter of D17 (log 10). -/
def Obligations.CostOfConditionalInstructions : Prop :=
  ∀ (k : Cond) (a16 : Word) (s : State),
    (s.fetched = .mkCcc k a16 → s.report config = .ok (if holds s k then 17 else 11)) ∧
    (s.fetched = .mkRcc k → s.report config = .ok (if holds s k then 11 else 5)) ∧
    (s.fetched = .mkJcc k a16 → s.report config = .ok 10) ∧
    (s.fetched = .call a16 → s.report config = .ok 17) ∧
    (s.fetched = .ret → s.report config = .ok 10) ∧
    (s.fetched = .jmp a16 → s.report config = .ok 10) ∧
    (s.fetched = .hlt → s.report config = .halt 7) ∧
    (∀ c : Config, c.unimplSet.contains (s.read s.pc) = false → s.fetched.wellFormed = true →
      (¬ Conditional s.fetched → s.report c =
        if s.fetched = .hlt then .halt (c.cycles s.fetched.opcode true) else .ok (c.cycles s.fetched.opcode true)) ∧
      (s.fetched = .mkJcc k a16 ∨ s.fetched = .mkCcc k a16 ∨ s.fetched = .mkRcc k →
        s.report c = .ok (c.cycles s.fetched.opcode (holds s k))))

/-- R252, R304, R8, R9, R257. Stopping at Halt is the default host policy of D27 (log 25), the unchanged state D4 (log 14). A request is a move of the host at a step boundary (log 13), and the clause for it holds at every state, the boundary before the first step included (log 31); the input snapshot it may set is a field of State (log 12). -/
def Obligations.RunEndsAtTheFirstHaltOrFault : Prop :=
  (∀ (moves : List HostMove) (s : State),
    (config.unimplSet.contains (s.read s.pc) = true →
      hostRun config (.step :: moves) s = .failed (.unimplementedOpcode s.pc (s.read s.pc)) s) ∧
    (s.fetched = .hlt → hostRun config (.step :: moves) s = .halted { s with pc := s.pc + 1 }) ∧
    (s.fetched ≠ .hlt → ∀ t, step s = .next t → hostRun config (.step :: moves) s = hostRun config moves t)) ∧
  (∀ (c : Config) (moves : List HostMove) (s : State),
    (c.unimplSet.contains (s.read s.pc) = true →
      hostRun c (.step :: moves) s = .failed (.unimplementedOpcode s.pc (s.read s.pc)) s) ∧
    (c.unimplSet.contains (s.read s.pc) = false → s.fetched = .hlt →
      hostRun c (.step :: moves) s = .halted { s with pc := s.pc + 1 }) ∧
    (s.fetched ≠ .hlt → ∀ t, fetchExecute c s = .next t → hostRun c (.step :: moves) s = hostRun c moves t) ∧
    (∀ v, hostRun c (.requestInterrupt v :: moves) s = hostRun c moves (s.requestInterrupt c v)) ∧
    (∀ b, hostRun c (.setButtons b :: moves) s = hostRun c moves { s with buttons := b }) ∧
    hostRun c [] s = .running s)
end

