-- ==== Sys2Proof/Laws/Flags.lean ====
section
/-! SUPPORT. Which flags each flag computation writes, by definition (R29, R31, R33 of 10_state.md). -/

namespace Sys2Proof.Machine

@[simp] theorem Flags.zsp_cy (f : Flags) (t : Int) : (f.zsp t).cy = f.cy := rfl
@[simp] theorem Flags.zsp_ac (f : Flags) (t : Int) : (f.zsp t).ac = f.ac := rfl
@[simp] theorem Flags.zsp_z (f : Flags) (t : Int) : (f.zsp t).z = (BitVec.ofInt 8 t == 0) := rfl
@[simp] theorem Flags.zsp_s (f : Flags) (t : Int) : (f.zsp t).s = (BitVec.ofInt 8 t).getLsbD 7 := rfl
@[simp] theorem Flags.zsp_p (f : Flags) (t : Int) : (f.zsp t).p = parityEven (BitVec.ofInt 8 t) := rfl
@[simp] theorem Flags.arith_cy (f : Flags) (t : Int) : (f.arith t).cy = decide (t < 0 ∨ 255 < t) := rfl
@[simp] theorem Flags.arith_ac (f : Flags) (t : Int) : (f.arith t).ac = decide (t < 0 ∨ 255 < t) := rfl
@[simp] theorem Flags.carry16_z (c : Config) (f : Flags) (t : Nat) : (f.carry16 c t).z = f.z := rfl
@[simp] theorem Flags.carry16_s (c : Config) (f : Flags) (t : Nat) : (f.carry16 c t).s = f.s := rfl
@[simp] theorem Flags.carry16_p (c : Config) (f : Flags) (t : Nat) : (f.carry16 c t).p = f.p := rfl
@[simp] theorem Flags.carry16_cy (c : Config) (f : Flags) (t : Nat) :
    (f.carry16 c t).cy = decide (0xFFFF < t) := rfl

/-- The five flags after `arith_flags(t)` do not depend on the flags before it (R28). -/
theorem Flags.arith_indep (f g : Flags) (t : Int) : f.arith t = g.arith t := rfl

end Sys2Proof.Machine
end

