-- ==== Sys2Proof/Laws/Forms.lean ====
section
/-! SUPPORT. The 256 rows by their forms: a claim about every instruction follows from one case for each form, and what `exec` does on a form is one shared operation. -/

namespace Sys2Proof

/-- One case for each form of the opcode table gives every row. -/
theorem Instr.by_form {P : Instr → Prop}
    (mov : ∀ (dst src : Reg), P (.mkMov dst src))
    (movFromM : ∀ (dst : Reg), P (.mkMovFromM dst))
    (movToM : ∀ (src : Reg), P (.mkMovToM src))
    (mvi : ∀ (dst : Src) (d8 : Byte), P (.mkMvi dst d8))
    (lxi : ∀ (dst : Rp) (d16 : Word), P (.mkLxi dst d16))
    (lda : ∀ (a16 : Word), P (.lda a16))
    (sta : ∀ (a16 : Word), P (.sta a16))
    (lhld : ∀ (a16 : Word), P (.lhld a16))
    (shld : ∀ (a16 : Word), P (.shld a16))
    (ldax : ∀ (p : IndPair), P (.mkLdax p))
    (stax : ∀ (p : IndPair), P (.mkStax p))
    (xchg : P (.xchg))
    (alu : ∀ (op : AluOp) (src : Src), P (.mkAlu op src))
    (aluImm : ∀ (op : AluOp) (d8 : Byte), P (.mkAluImm op d8))
    (inr : ∀ (dst : Src), P (.mkInr dst))
    (dcr : ∀ (dst : Src), P (.mkDcr dst))
    (inx : ∀ (p : Rp), P (.mkInx p))
    (dcx : ∀ (p : Rp), P (.mkDcx p))
    (dad : ∀ (p : Rp), P (.mkDad p))
    (daa : P (.daa))
    (rlc : P (.rlc))
    (rrc : P (.rrc))
    (ral : P (.ral))
    (rar : P (.rar))
    (cma : P (.cma))
    (cmc : P (.cmc))
    (stc : P (.stc))
    (jmp : ∀ (a16 : Word), P (.jmp a16))
    (jcc : ∀ (k : Cond) (a16 : Word), P (.mkJcc k a16))
    (call : ∀ (a16 : Word), P (.call a16))
    (ccc : ∀ (k : Cond) (a16 : Word), P (.mkCcc k a16))
    (ret : P (.ret))
    (rcc : ∀ (k : Cond), P (.mkRcc k))
    (rst : ∀ (n : Fin 8), P (.mkRst n))
    (pchl : P (.pchl))
    (push : ∀ (p : RegPair), P (.mkPush p))
    (pushPsw : P (.pushPsw))
    (pop : ∀ (p : RegPair), P (.mkPop p))
    (popPsw : P (.popPsw))
    (xthl : P (.xthl))
    (sphl : P (.sphl))
    (inPort : ∀ (p8 : Byte), P (.inPort p8))
    (outPort : ∀ (p8 : Byte), P (.outPort p8))
    (ei : P (.ei))
    (di : P (.di))
    (hlt : P (.hlt))
    (nop : P (.nop))
    (unimplemented : ∀ i op, i.unimplementedByte = some op → P i) : ∀ i, P i := by
  intro i
  cases i with
  | nop => exact nop
  | lxiB x => exact lxi .bc x
  | staxB => exact stax .bc
  | inxB => exact inx .bc
  | inrB => exact inr (.reg .b)
  | dcrB => exact dcr (.reg .b)
  | mviB x => exact mvi (.reg .b) x
  | rlc => exact rlc
  | unimplemented08 => exact unimplemented _ _ rfl
  | dadB => exact dad .bc
  | ldaxB => exact ldax .bc
  | dcxB => exact dcx .bc
  | inrC => exact inr (.reg .c)
  | dcrC => exact dcr (.reg .c)
  | mviC x => exact mvi (.reg .c) x
  | rrc => exact rrc
  | unimplemented10 => exact unimplemented _ _ rfl
  | lxiD x => exact lxi .de x
  | staxD => exact stax .de
  | inxD => exact inx .de
  | inrD => exact inr (.reg .d)
  | dcrD => exact dcr (.reg .d)
  | mviD x => exact mvi (.reg .d) x
  | ral => exact ral
  | unimplemented18 => exact unimplemented _ _ rfl
  | dadD => exact dad .de
  | ldaxD => exact ldax .de
  | dcxD => exact dcx .de
  | inrE => exact inr (.reg .e)
  | dcrE => exact dcr (.reg .e)
  | mviE x => exact mvi (.reg .e) x
  | rar => exact rar
  | unimplemented20 => exact unimplemented _ _ rfl
  | lxiH x => exact lxi .hl x
  | shld x => exact shld x
  | inxH => exact inx .hl
  | inrH => exact inr (.reg .h)
  | dcrH => exact dcr (.reg .h)
  | mviH x => exact mvi (.reg .h) x
  | daa => exact daa
  | unimplemented28 => exact unimplemented _ _ rfl
  | dadH => exact dad .hl
  | lhld x => exact lhld x
  | dcxH => exact dcx .hl
  | inrL => exact inr (.reg .l)
  | dcrL => exact dcr (.reg .l)
  | mviL x => exact mvi (.reg .l) x
  | cma => exact cma
  | unimplemented30 => exact unimplemented _ _ rfl
  | lxiSp x => exact lxi .sp x
  | sta x => exact sta x
  | inxSp => exact inx .sp
  | inrM => exact inr .m
  | dcrM => exact dcr .m
  | mviM x => exact mvi .m x
  | stc => exact stc
  | unimplemented38 => exact unimplemented _ _ rfl
  | dadSp => exact dad .sp
  | lda x => exact lda x
  | dcxSp => exact dcx .sp
  | inrA => exact inr (.reg .a)
  | dcrA => exact dcr (.reg .a)
  | mviA x => exact mvi (.reg .a) x
  | cmc => exact cmc
  | movBB => exact mov .b .b
  | movBC => exact mov .b .c
  | movBD => exact mov .b .d
  | movBE => exact mov .b .e
  | movBH => exact mov .b .h
  | movBL => exact mov .b .l
  | movBM => exact movFromM .b
  | movBA => exact mov .b .a
  | movCB => exact mov .c .b
  | movCC => exact mov .c .c
  | movCD => exact mov .c .d
  | movCE => exact mov .c .e
  | movCH => exact mov .c .h
  | movCL => exact mov .c .l
  | movCM => exact movFromM .c
  | movCA => exact mov .c .a
  | movDB => exact mov .d .b
  | movDC => exact mov .d .c
  | movDD => exact mov .d .d
  | movDE => exact mov .d .e
  | movDH => exact mov .d .h
  | movDL => exact mov .d .l
  | movDM => exact movFromM .d
  | movDA => exact mov .d .a
  | movEB => exact mov .e .b
  | movEC => exact mov .e .c
  | movED => exact mov .e .d
  | movEE => exact mov .e .e
  | movEH => exact mov .e .h
  | movEL => exact mov .e .l
  | movEM => exact movFromM .e
  | movEA => exact mov .e .a
  | movHB => exact mov .h .b
  | movHC => exact mov .h .c
  | movHD => exact mov .h .d
  | movHE => exact mov .h .e
  | movHH => exact mov .h .h
  | movHL => exact mov .h .l
  | movHM => exact movFromM .h
  | movHA => exact mov .h .a
  | movLB => exact mov .l .b
  | movLC => exact mov .l .c
  | movLD => exact mov .l .d
  | movLE => exact mov .l .e
  | movLH => exact mov .l .h
  | movLL => exact mov .l .l
  | movLM => exact movFromM .l
  | movLA => exact mov .l .a
  | movMB => exact movToM .b
  | movMC => exact movToM .c
  | movMD => exact movToM .d
  | movME => exact movToM .e
  | movMH => exact movToM .h
  | movML => exact movToM .l
  | hlt => exact hlt
  | movMA => exact movToM .a
  | movAB => exact mov .a .b
  | movAC => exact mov .a .c
  | movAD => exact mov .a .d
  | movAE => exact mov .a .e
  | movAH => exact mov .a .h
  | movAL => exact mov .a .l
  | movAM => exact movFromM .a
  | movAA => exact mov .a .a
  | addB => exact alu .add (.reg .b)
  | addC => exact alu .add (.reg .c)
  | addD => exact alu .add (.reg .d)
  | addE => exact alu .add (.reg .e)
  | addH => exact alu .add (.reg .h)
  | addL => exact alu .add (.reg .l)
  | addM => exact alu .add .m
  | addA => exact alu .add (.reg .a)
  | adcB => exact alu .adc (.reg .b)
  | adcC => exact alu .adc (.reg .c)
  | adcD => exact alu .adc (.reg .d)
  | adcE => exact alu .adc (.reg .e)
  | adcH => exact alu .adc (.reg .h)
  | adcL => exact alu .adc (.reg .l)
  | adcM => exact alu .adc .m
  | adcA => exact alu .adc (.reg .a)
  | subB => exact alu .sub (.reg .b)
  | subC => exact alu .sub (.reg .c)
  | subD => exact alu .sub (.reg .d)
  | subE => exact alu .sub (.reg .e)
  | subH => exact alu .sub (.reg .h)
  | subL => exact alu .sub (.reg .l)
  | subM => exact alu .sub .m
  | subA => exact alu .sub (.reg .a)
  | sbbB => exact alu .sbb (.reg .b)
  | sbbC => exact alu .sbb (.reg .c)
  | sbbD => exact alu .sbb (.reg .d)
  | sbbE => exact alu .sbb (.reg .e)
  | sbbH => exact alu .sbb (.reg .h)
  | sbbL => exact alu .sbb (.reg .l)
  | sbbM => exact alu .sbb .m
  | sbbA => exact alu .sbb (.reg .a)
  | anaB => exact alu .ana (.reg .b)
  | anaC => exact alu .ana (.reg .c)
  | anaD => exact alu .ana (.reg .d)
  | anaE => exact alu .ana (.reg .e)
  | anaH => exact alu .ana (.reg .h)
  | anaL => exact alu .ana (.reg .l)
  | anaM => exact alu .ana .m
  | anaA => exact alu .ana (.reg .a)
  | xraB => exact alu .xra (.reg .b)
  | xraC => exact alu .xra (.reg .c)
  | xraD => exact alu .xra (.reg .d)
  | xraE => exact alu .xra (.reg .e)
  | xraH => exact alu .xra (.reg .h)
  | xraL => exact alu .xra (.reg .l)
  | xraM => exact alu .xra .m
  | xraA => exact alu .xra (.reg .a)
  | oraB => exact alu .ora (.reg .b)
  | oraC => exact alu .ora (.reg .c)
  | oraD => exact alu .ora (.reg .d)
  | oraE => exact alu .ora (.reg .e)
  | oraH => exact alu .ora (.reg .h)
  | oraL => exact alu .ora (.reg .l)
  | oraM => exact alu .ora .m
  | oraA => exact alu .ora (.reg .a)
  | cmpB => exact alu .cmp (.reg .b)
  | cmpC => exact alu .cmp (.reg .c)
  | cmpD => exact alu .cmp (.reg .d)
  | cmpE => exact alu .cmp (.reg .e)
  | cmpH => exact alu .cmp (.reg .h)
  | cmpL => exact alu .cmp (.reg .l)
  | cmpM => exact alu .cmp .m
  | cmpA => exact alu .cmp (.reg .a)
  | rnz => exact rcc .nz
  | popB => exact pop .bc
  | jnz x => exact jcc .nz x
  | jmp x => exact jmp x
  | cnz x => exact ccc .nz x
  | pushB => exact push .bc
  | adi x => exact aluImm .add x
  | rst0 => exact rst 0
  | rz => exact rcc .z
  | ret => exact ret
  | jz x => exact jcc .z x
  | unimplementedCB => exact unimplemented _ _ rfl
  | cz x => exact ccc .z x
  | call x => exact call x
  | aci x => exact aluImm .adc x
  | rst1 => exact rst 1
  | rnc => exact rcc .nc
  | popD => exact pop .de
  | jnc x => exact jcc .nc x
  | outPort x => exact outPort x
  | cnc x => exact ccc .nc x
  | pushD => exact push .de
  | sui x => exact aluImm .sub x
  | rst2 => exact rst 2
  | rc => exact rcc .c
  | unimplementedD9 => exact unimplemented _ _ rfl
  | jc x => exact jcc .c x
  | inPort x => exact inPort x
  | cc x => exact ccc .c x
  | unimplementedDD => exact unimplemented _ _ rfl
  | sbi x => exact aluImm .sbb x
  | rst3 => exact rst 3
  | rpo => exact rcc .po
  | popH => exact pop .hl
  | jpo x => exact jcc .po x
  | xthl => exact xthl
  | cpo x => exact ccc .po x
  | pushH => exact push .hl
  | ani x => exact aluImm .ana x
  | rst4 => exact rst 4
  | rpe => exact rcc .pe
  | pchl => exact pchl
  | jpe x => exact jcc .pe x
  | xchg => exact xchg
  | cpe x => exact ccc .pe x
  | unimplementedED => exact unimplemented _ _ rfl
  | xri x => exact aluImm .xra x
  | rst5 => exact rst 5
  | rp => exact rcc .p
  | popPsw => exact popPsw
  | jp x => exact jcc .p x
  | di => exact di
  | cp x => exact ccc .p x
  | pushPsw => exact pushPsw
  | ori x => exact aluImm .ora x
  | rst6 => exact rst 6
  | rm => exact rcc .m
  | sphl => exact sphl
  | jm x => exact jcc .m x
  | ei => exact ei
  | cm x => exact ccc .m x
  | unimplementedFD => exact unimplemented _ _ rfl
  | cpi x => exact aluImm .cmp x
  | rst7 => exact rst 7

end Sys2Proof

namespace Sys2Proof.Machine

theorem exec_mov (dst src : Reg) (s : State) : exec (.mkMov dst src) s = complete 1 (doMov dst src) s := by
  cases dst <;> cases src <;> rfl

theorem exec_movFromM (dst : Reg) (s : State) : exec (.mkMovFromM dst) s = complete 1 (doMovFromM dst) s := by
  cases dst <;> rfl

theorem exec_movToM (src : Reg) (s : State) : exec (.mkMovToM src) s = complete 1 (doMovToM src) s := by
  cases src <;> rfl

theorem exec_mvi (dst : Src) (d8 : Byte) (s : State) : exec (.mkMvi dst d8) s = complete 2 (doMvi dst d8) s := by
  (rcases dst with (dst | _) <;> [cases dst; skip]) <;> rfl

theorem exec_lxi (dst : Rp) (d16 : Word) (s : State) : exec (.mkLxi dst d16) s = complete 3 (doLxi dst d16) s := by
  cases dst <;> rfl

theorem exec_lda (a16 : Word) (s : State) : exec (.lda a16) s = complete 3 (doLda a16) s := rfl

theorem exec_sta (a16 : Word) (s : State) : exec (.sta a16) s = complete 3 (doSta a16) s := rfl

theorem exec_lhld (a16 : Word) (s : State) : exec (.lhld a16) s = complete 3 (doLhld a16) s := rfl

theorem exec_shld (a16 : Word) (s : State) : exec (.shld a16) s = complete 3 (doShld a16) s := rfl

theorem exec_ldax (p : IndPair) (s : State) : exec (.mkLdax p) s = complete 1 (doLdax p) s := by
  cases p <;> rfl

theorem exec_stax (p : IndPair) (s : State) : exec (.mkStax p) s = complete 1 (doStax p) s := by
  cases p <;> rfl

theorem exec_xchg (s : State) : exec (.xchg) s = complete 1 doXchg s := rfl

theorem exec_alu (op : AluOp) (src : Src) (s : State) : exec (.mkAlu op src) s = complete 1 (doAlu op src) s := by
  cases op <;> (rcases src with (src | _) <;> [cases src; skip]) <;> rfl

theorem exec_aluImm (op : AluOp) (d8 : Byte) (s : State) : exec (.mkAluImm op d8) s = complete 2 (doAluImm op d8) s := by
  cases op <;> rfl

theorem exec_inr (dst : Src) (s : State) : exec (.mkInr dst) s = complete 1 (doInr dst) s := by
  (rcases dst with (dst | _) <;> [cases dst; skip]) <;> rfl

theorem exec_dcr (dst : Src) (s : State) : exec (.mkDcr dst) s = complete 1 (doDcr dst) s := by
  (rcases dst with (dst | _) <;> [cases dst; skip]) <;> rfl

theorem exec_inx (p : Rp) (s : State) : exec (.mkInx p) s = complete 1 (doInx p) s := by
  cases p <;> rfl

theorem exec_dcx (p : Rp) (s : State) : exec (.mkDcx p) s = complete 1 (doDcx p) s := by
  cases p <;> rfl

theorem exec_dad (p : Rp) (s : State) : exec (.mkDad p) s = complete 1 (doDad config p) s := by
  cases p <;> rfl

theorem exec_daa (s : State) : exec (.daa) s = complete 1 (doDaa config) s := rfl

theorem exec_rlc (s : State) : exec (.rlc) s = complete 1 doRlc s := rfl

theorem exec_rrc (s : State) : exec (.rrc) s = complete 1 doRrc s := rfl

theorem exec_ral (s : State) : exec (.ral) s = complete 1 doRal s := rfl

theorem exec_rar (s : State) : exec (.rar) s = complete 1 doRar s := rfl

theorem exec_cma (s : State) : exec (.cma) s = complete 1 doCma s := rfl

theorem exec_cmc (s : State) : exec (.cmc) s = complete 1 doCmc s := rfl

theorem exec_stc (s : State) : exec (.stc) s = complete 1 doStc s := rfl

theorem exec_jmp (a16 : Word) (s : State) : exec (.jmp a16) s = complete 3 (doJmp a16) s := rfl

theorem exec_jcc (k : Cond) (a16 : Word) (s : State) : exec (.mkJcc k a16) s = complete 3 (doJcc k a16) s := by
  cases k <;> rfl

theorem exec_call (a16 : Word) (s : State) : exec (.call a16) s = complete 3 (doCall a16) s := rfl

theorem exec_ccc (k : Cond) (a16 : Word) (s : State) : exec (.mkCcc k a16) s = complete 3 (doCcc k a16) s := by
  cases k <;> rfl

theorem exec_ret (s : State) : exec (.ret) s = complete 1 doRet s := rfl

theorem exec_rcc (k : Cond) (s : State) : exec (.mkRcc k) s = complete 1 (doRcc k) s := by
  cases k <;> rfl

theorem exec_rst (n : Fin 8) (s : State) : exec (.mkRst n) s = complete 1 (doRst n) s := by
  fin_cases n <;> rfl

theorem exec_pchl (s : State) : exec (.pchl) s = complete 1 doPchl s := rfl

theorem exec_push (p : RegPair) (s : State) : exec (.mkPush p) s = complete 1 (doPush p) s := by
  cases p <;> rfl

theorem exec_pushPsw (s : State) : exec (.pushPsw) s = complete 1 doPushPsw s := rfl

theorem exec_pop (p : RegPair) (s : State) : exec (.mkPop p) s = complete 1 (doPop p) s := by
  cases p <;> rfl

theorem exec_popPsw (s : State) : exec (.popPsw) s = complete 1 doPopPsw s := rfl

theorem exec_xthl (s : State) : exec (.xthl) s = complete 1 doXthl s := rfl

theorem exec_sphl (s : State) : exec (.sphl) s = complete 1 doSphl s := rfl

theorem exec_inPort (p8 : Byte) (s : State) : exec (.inPort p8) s = complete 2 (doIn config p8) s := rfl

theorem exec_outPort (p8 : Byte) (s : State) : exec (.outPort p8) s = complete 2 (doOut config p8) s := rfl

theorem exec_ei (s : State) : exec (.ei) s = complete 1 doEi s := rfl

theorem exec_di (s : State) : exec (.di) s = complete 1 doDi s := rfl

theorem exec_hlt (s : State) : exec (.hlt) s = complete 1 doHlt s := rfl

theorem exec_nop (s : State) : exec (.nop) s = complete 1 doNop s := rfl

theorem exec_unimplemented {i : Instr} {op : Byte} (h : i.unimplementedByte = some op) (s : State) :
    exec i s = raiseUnimplemented op s := by
  cases i <;> cases h <;> rfl

/-- All an instruction that completes can do: PC <- next, then its operation. -/
theorem complete_next {len : Nat} {operation : State → State} {s t : State}
    (h : complete len operation s = .next t) : t = operation (s.advance len) := by
  cases h
  rfl

end Sys2Proof.Machine
end

