-- ==== Sys2Proof/Laws/Memory.lean ====
section
/-! SUPPORT. The laws of the memory list (R50 of 20_memory.md): a read after a write, and that writing keeps the canonical form. -/

namespace Sys2Proof.Machine

theorem Memory.read_erase (m : Memory) (a x : Nat) :
    (m.erase a).read x = if x = a then Memory.unlisted else m.read x := by
  induction m with
  | nil => simp [Memory.erase, Memory.read]
  | cons cell rest ih =>
    simp only [Memory.erase] at ih ⊢
    by_cases h : cell.1 = a
    · simp only [List.filter_cons, h, bne_self_eq_false, Bool.false_eq_true, if_false, ih, Memory.read]
      split <;> simp_all
    · simp only [List.filter_cons, bne_iff_ne.mpr h, if_true, Memory.read, ih]
      split
      · next e => simp [e, h]
      · rfl

theorem Memory.read_insert (m : Memory) (a : Nat) (v : Byte) (x : Nat) :
    (m.insert a v).read x = if x = a then v else m.read x := by
  induction m with
  | nil => rfl
  | cons cell rest ih =>
    simp only [Memory.insert]
    split
    · rfl
    · split
      · next e => simp only [Memory.read, ← e]; split <;> rfl
      · next e =>
        simp only [Memory.read, ih]
        split
        · next g => simp [g, Ne.symm e]
        · rfl

/-- A read after a write: the byte written at its own address, the old byte elsewhere. -/
theorem Memory.read_write (m : Memory) (a : Nat) (v : Byte) (x : Nat) :
    (m.write a v).read x = if x = a then v else m.read x := by
  unfold Memory.write
  split
  · next e => rw [Memory.read_erase, e]
  · exact Memory.read_insert m a v x

theorem Memory.wfFrom_mono {lo lo' : Nat} {m : Memory} (le : lo' ≤ lo) (h : m.wfFrom lo = true) :
    m.wfFrom lo' = true := by
  cases m with
  | nil => rfl
  | cons cell rest =>
    simp only [Memory.wfFrom, Bool.and_eq_true, decide_eq_true_eq] at h ⊢
    exact ⟨⟨⟨le.trans h.1.1.1, h.1.1.2⟩, h.1.2⟩, h.2⟩

theorem Memory.wfFrom_erase {lo : Nat} {m : Memory} (a : Nat) (h : m.wfFrom lo = true) :
    (m.erase a).wfFrom lo = true := by
  induction m generalizing lo with
  | nil => rfl
  | cons cell rest ih =>
    simp only [Memory.wfFrom, Bool.and_eq_true, decide_eq_true_eq] at h
    simp only [Memory.erase] at ih ⊢
    by_cases e : cell.1 = a
    · simp only [List.filter_cons, e, bne_self_eq_false, Bool.false_eq_true, if_false]
      exact Memory.wfFrom_mono (by omega) (ih h.2)
    · simp only [List.filter_cons, bne_iff_ne.mpr e, if_true, Memory.wfFrom, Bool.and_eq_true,
        decide_eq_true_eq]
      exact ⟨h.1, ih h.2⟩

theorem Memory.wfFrom_insert {lo : Nat} {m : Memory} {a : Nat} {v : Byte} (le : lo ≤ a)
    (lt : a < 65536) (ne : v ≠ Memory.unlisted) (h : m.wfFrom lo = true) :
    (m.insert a v).wfFrom lo = true := by
  induction m generalizing lo with
  | nil => simp [Memory.insert, Memory.wfFrom, le, lt, ne]
  | cons cell rest ih =>
    obtain ⟨b, w⟩ := cell
    simp only [Memory.wfFrom, Bool.and_eq_true, decide_eq_true_eq] at h
    simp only [Memory.insert]
    split
    · simp only [Memory.wfFrom, Bool.and_eq_true, decide_eq_true_eq]
      exact ⟨⟨⟨le, lt⟩, ne⟩, ⟨⟨by omega, h.1.1.2⟩, h.1.2⟩, h.2⟩
    · split
      · next e =>
        simp only [Memory.wfFrom, Bool.and_eq_true, decide_eq_true_eq]
        exact ⟨⟨⟨le, lt⟩, ne⟩, by rw [e]; exact h.2⟩
      · simp only [Memory.wfFrom, Bool.and_eq_true, decide_eq_true_eq]
        exact ⟨h.1, ih (by omega) h.2⟩

/-- Writing inside the address space keeps the canonical form. -/
theorem Memory.wf_write {m : Memory} {a : Nat} (v : Byte) (lt : a < 65536) (h : m.wf = true) :
    (m.write a v).wf = true := by
  unfold Memory.write
  split
  · exact Memory.wfFrom_erase a h
  · next ne => exact Memory.wfFrom_insert (Nat.zero_le _) lt ne h

/-- Every address of `m` is at least `lo`, so a lower one is not listed. -/
theorem Memory.read_below {m : Memory} {lo x : Nat} (h : m.wfFrom lo = true) (lt : x < lo) :
    m.read x = Memory.unlisted := by
  induction m generalizing lo with
  | nil => rfl
  | cons cell rest ih =>
    obtain ⟨b, w⟩ := cell
    simp only [Memory.wfFrom, Bool.and_eq_true, decide_eq_true_eq] at h
    simp only [Memory.read]
    rw [if_neg (by omega)]
    exact ih h.2 (by omega)

/-- Two memories in canonical form that read alike everywhere are the same list. -/
theorem Memory.ext_of_wfFrom {m m' : Memory} {lo lo' : Nat} (h : m.wfFrom lo = true)
    (h' : m'.wfFrom lo' = true) (same : ∀ x, m.read x = m'.read x) : m = m' := by
  induction m generalizing m' lo lo' with
  | nil =>
    cases m' with
    | nil => rfl
    | cons cell rest =>
      obtain ⟨b, w⟩ := cell
      simp only [Memory.wfFrom, Bool.and_eq_true, decide_eq_true_eq] at h'
      have := same b
      simp only [Memory.read, if_true] at this
      exact absurd this.symm h'.1.2
  | cons cell rest ih =>
    obtain ⟨b, w⟩ := cell
    simp only [Memory.wfFrom, Bool.and_eq_true, decide_eq_true_eq] at h
    cases m' with
    | nil =>
      have := same b
      simp only [Memory.read, if_true] at this
      exact absurd this h.1.2
    | cons cell' rest' =>
      obtain ⟨b', w'⟩ := cell'
      simp only [Memory.wfFrom, Bool.and_eq_true, decide_eq_true_eq] at h'
      have eb : b = b' := by
        rcases Nat.lt_trichotomy b b' with lt | e | lt
        · have := same b
          simp only [Memory.read, if_true] at this
          rw [if_neg (by omega), Memory.read_below h'.2 (by omega)] at this
          exact absurd this h.1.2
        · exact e
        · have := same b'
          simp only [Memory.read, if_true] at this
          rw [if_neg (by omega), Memory.read_below h.2 (by omega)] at this
          exact absurd this.symm h'.1.2
      subst eb
      have ew : w = w' := by simpa [Memory.read] using same b
      subst ew
      congr 1
      refine ih h.2 h'.2 (fun x => ?_)
      by_cases e : x = b
      · rw [e, Memory.read_below h.2 (by omega), Memory.read_below h'.2 (by omega)]
      · simpa [Memory.read, e] using same x

theorem State.read_write (s : State) (a : Word) (v : Byte) (x : Word) :
    (s.write a v).read x = if x = a then v else s.read x := by
  simp only [State.read, State.write, Memory.read_write, BitVec.toNat_inj]

end Sys2Proof.Machine
end

