-- ==== Sys2Proof/Laws/Word.lean ====
section
/-! SUPPORT. Putting a word together from two bytes and taking it apart are inverse, and both as numbers. -/

namespace Sys2Proof

theorem Word.toNat_ofBytes (hi lo : Byte) :
    (Word.ofBytes hi lo).toNat = 256 * hi.toNat + lo.toNat := by
  change (hi ++ lo : BitVec (8 + 8)).toNat = _
  rw [BitVec.toNat_append, ← Nat.shiftLeft_add_eq_or_of_lt lo.isLt, Nat.shiftLeft_eq]
  omega

theorem Word.toNat_hi (w : Word) : w.hi.toNat = w.toNat / 256 := by
  have := w.isLt
  simp only [Word.hi, BitVec.extractLsb'_toNat, Nat.shiftRight_eq_div_pow]
  omega

theorem Word.toNat_lo (w : Word) : w.lo.toNat = w.toNat % 256 := by
  simp [Word.lo]

@[simp] theorem Word.hi_ofBytes (hi lo : Byte) : (Word.ofBytes hi lo).hi = hi := by
  apply BitVec.eq_of_toNat_eq
  have := lo.isLt
  rw [Word.toNat_hi, Word.toNat_ofBytes]
  omega

@[simp] theorem Word.lo_ofBytes (hi lo : Byte) : (Word.ofBytes hi lo).lo = lo := by
  apply BitVec.eq_of_toNat_eq
  have := lo.isLt
  rw [Word.toNat_lo, Word.toNat_ofBytes]
  omega

@[simp] theorem Word.ofBytes_hi_lo (w : Word) : Word.ofBytes w.hi w.lo = w := by
  apply BitVec.eq_of_toNat_eq
  rw [Word.toNat_ofBytes, Word.toNat_hi, Word.toNat_lo]
  omega

end Sys2Proof
end

