-- ==== Sys2Proof/Laws/State.lean ====
section
/-! SUPPORT. What each update of State leaves in each field, true by definition, and what it leaves of a register and of a byte of memory. -/

namespace Sys2Proof.Machine

@[simp] theorem State.setReg_regs (s : State) (r : Reg) (v : Byte) : (s.setReg r v).regs = s.regs.set r v := rfl
@[simp] theorem State.setReg_pc (s : State) (r : Reg) (v : Byte) : (s.setReg r v).pc = s.pc := rfl
@[simp] theorem State.setReg_sp (s : State) (r : Reg) (v : Byte) : (s.setReg r v).sp = s.sp := rfl
@[simp] theorem State.setReg_flags (s : State) (r : Reg) (v : Byte) : (s.setReg r v).flags = s.flags := rfl
@[simp] theorem State.setReg_inte (s : State) (r : Reg) (v : Byte) : (s.setReg r v).inte = s.inte := rfl
@[simp] theorem State.setReg_shHi (s : State) (r : Reg) (v : Byte) : (s.setReg r v).shHi = s.shHi := rfl
@[simp] theorem State.setReg_shLo (s : State) (r : Reg) (v : Byte) : (s.setReg r v).shLo = s.shLo := rfl
@[simp] theorem State.setReg_shOff (s : State) (r : Reg) (v : Byte) : (s.setReg r v).shOff = s.shOff := rfl
@[simp] theorem State.setReg_buttons (s : State) (r : Reg) (v : Byte) : (s.setReg r v).buttons = s.buttons := rfl
@[simp] theorem State.setReg_mem (s : State) (r : Reg) (v : Byte) : (s.setReg r v).mem = s.mem := rfl
@[simp] theorem State.setReg_read (s : State) (r : Reg) (v : Byte) (a' : Word) : (s.setReg r v).read a' = s.read a' := rfl

@[simp] theorem State.setPc_regs (s : State) (w : Word) : (s.setPc w).regs = s.regs := rfl
@[simp] theorem State.setPc_pc (s : State) (w : Word) : (s.setPc w).pc = w := rfl
@[simp] theorem State.setPc_sp (s : State) (w : Word) : (s.setPc w).sp = s.sp := rfl
@[simp] theorem State.setPc_flags (s : State) (w : Word) : (s.setPc w).flags = s.flags := rfl
@[simp] theorem State.setPc_inte (s : State) (w : Word) : (s.setPc w).inte = s.inte := rfl
@[simp] theorem State.setPc_shHi (s : State) (w : Word) : (s.setPc w).shHi = s.shHi := rfl
@[simp] theorem State.setPc_shLo (s : State) (w : Word) : (s.setPc w).shLo = s.shLo := rfl
@[simp] theorem State.setPc_shOff (s : State) (w : Word) : (s.setPc w).shOff = s.shOff := rfl
@[simp] theorem State.setPc_buttons (s : State) (w : Word) : (s.setPc w).buttons = s.buttons := rfl
@[simp] theorem State.setPc_mem (s : State) (w : Word) : (s.setPc w).mem = s.mem := rfl
@[simp] theorem State.setPc_reg (s : State) (w : Word) (r' : Reg) : (s.setPc w).reg r' = s.reg r' := rfl
@[simp] theorem State.setPc_pair (s : State) (w : Word) (p' : RegPair) : (s.setPc w).pair p' = s.pair p' := rfl
@[simp] theorem State.setPc_hl (s : State) (w : Word) : (s.setPc w).hl = s.hl := rfl
@[simp] theorem State.setPc_read (s : State) (w : Word) (a' : Word) : (s.setPc w).read a' = s.read a' := rfl

@[simp] theorem State.setSp_regs (s : State) (w : Word) : (s.setSp w).regs = s.regs := rfl
@[simp] theorem State.setSp_pc (s : State) (w : Word) : (s.setSp w).pc = s.pc := rfl
@[simp] theorem State.setSp_sp (s : State) (w : Word) : (s.setSp w).sp = w := rfl
@[simp] theorem State.setSp_flags (s : State) (w : Word) : (s.setSp w).flags = s.flags := rfl
@[simp] theorem State.setSp_inte (s : State) (w : Word) : (s.setSp w).inte = s.inte := rfl
@[simp] theorem State.setSp_shHi (s : State) (w : Word) : (s.setSp w).shHi = s.shHi := rfl
@[simp] theorem State.setSp_shLo (s : State) (w : Word) : (s.setSp w).shLo = s.shLo := rfl
@[simp] theorem State.setSp_shOff (s : State) (w : Word) : (s.setSp w).shOff = s.shOff := rfl
@[simp] theorem State.setSp_buttons (s : State) (w : Word) : (s.setSp w).buttons = s.buttons := rfl
@[simp] theorem State.setSp_mem (s : State) (w : Word) : (s.setSp w).mem = s.mem := rfl
@[simp] theorem State.setSp_reg (s : State) (w : Word) (r' : Reg) : (s.setSp w).reg r' = s.reg r' := rfl
@[simp] theorem State.setSp_pair (s : State) (w : Word) (p' : RegPair) : (s.setSp w).pair p' = s.pair p' := rfl
@[simp] theorem State.setSp_hl (s : State) (w : Word) : (s.setSp w).hl = s.hl := rfl
@[simp] theorem State.setSp_read (s : State) (w : Word) (a' : Word) : (s.setSp w).read a' = s.read a' := rfl

@[simp] theorem State.setFlags_regs (s : State) (f : Flags) : (s.setFlags f).regs = s.regs := rfl
@[simp] theorem State.setFlags_pc (s : State) (f : Flags) : (s.setFlags f).pc = s.pc := rfl
@[simp] theorem State.setFlags_sp (s : State) (f : Flags) : (s.setFlags f).sp = s.sp := rfl
@[simp] theorem State.setFlags_flags (s : State) (f : Flags) : (s.setFlags f).flags = f := rfl
@[simp] theorem State.setFlags_inte (s : State) (f : Flags) : (s.setFlags f).inte = s.inte := rfl
@[simp] theorem State.setFlags_shHi (s : State) (f : Flags) : (s.setFlags f).shHi = s.shHi := rfl
@[simp] theorem State.setFlags_shLo (s : State) (f : Flags) : (s.setFlags f).shLo = s.shLo := rfl
@[simp] theorem State.setFlags_shOff (s : State) (f : Flags) : (s.setFlags f).shOff = s.shOff := rfl
@[simp] theorem State.setFlags_buttons (s : State) (f : Flags) : (s.setFlags f).buttons = s.buttons := rfl
@[simp] theorem State.setFlags_mem (s : State) (f : Flags) : (s.setFlags f).mem = s.mem := rfl
@[simp] theorem State.setFlags_reg (s : State) (f : Flags) (r' : Reg) : (s.setFlags f).reg r' = s.reg r' := rfl
@[simp] theorem State.setFlags_pair (s : State) (f : Flags) (p' : RegPair) : (s.setFlags f).pair p' = s.pair p' := rfl
@[simp] theorem State.setFlags_hl (s : State) (f : Flags) : (s.setFlags f).hl = s.hl := rfl
@[simp] theorem State.setFlags_read (s : State) (f : Flags) (a' : Word) : (s.setFlags f).read a' = s.read a' := rfl

@[simp] theorem State.setInte_regs (s : State) (b : Bool) : (s.setInte b).regs = s.regs := rfl
@[simp] theorem State.setInte_pc (s : State) (b : Bool) : (s.setInte b).pc = s.pc := rfl
@[simp] theorem State.setInte_sp (s : State) (b : Bool) : (s.setInte b).sp = s.sp := rfl
@[simp] theorem State.setInte_flags (s : State) (b : Bool) : (s.setInte b).flags = s.flags := rfl
@[simp] theorem State.setInte_inte (s : State) (b : Bool) : (s.setInte b).inte = b := rfl
@[simp] theorem State.setInte_shHi (s : State) (b : Bool) : (s.setInte b).shHi = s.shHi := rfl
@[simp] theorem State.setInte_shLo (s : State) (b : Bool) : (s.setInte b).shLo = s.shLo := rfl
@[simp] theorem State.setInte_shOff (s : State) (b : Bool) : (s.setInte b).shOff = s.shOff := rfl
@[simp] theorem State.setInte_buttons (s : State) (b : Bool) : (s.setInte b).buttons = s.buttons := rfl
@[simp] theorem State.setInte_mem (s : State) (b : Bool) : (s.setInte b).mem = s.mem := rfl
@[simp] theorem State.setInte_reg (s : State) (b : Bool) (r' : Reg) : (s.setInte b).reg r' = s.reg r' := rfl
@[simp] theorem State.setInte_pair (s : State) (b : Bool) (p' : RegPair) : (s.setInte b).pair p' = s.pair p' := rfl
@[simp] theorem State.setInte_hl (s : State) (b : Bool) : (s.setInte b).hl = s.hl := rfl
@[simp] theorem State.setInte_read (s : State) (b : Bool) (a' : Word) : (s.setInte b).read a' = s.read a' := rfl

@[simp] theorem State.setLatches_regs (s : State) (hi lo : Byte) : (s.setLatches hi lo).regs = s.regs := rfl
@[simp] theorem State.setLatches_pc (s : State) (hi lo : Byte) : (s.setLatches hi lo).pc = s.pc := rfl
@[simp] theorem State.setLatches_sp (s : State) (hi lo : Byte) : (s.setLatches hi lo).sp = s.sp := rfl
@[simp] theorem State.setLatches_flags (s : State) (hi lo : Byte) : (s.setLatches hi lo).flags = s.flags := rfl
@[simp] theorem State.setLatches_inte (s : State) (hi lo : Byte) : (s.setLatches hi lo).inte = s.inte := rfl
@[simp] theorem State.setLatches_shHi (s : State) (hi lo : Byte) : (s.setLatches hi lo).shHi = hi := rfl
@[simp] theorem State.setLatches_shLo (s : State) (hi lo : Byte) : (s.setLatches hi lo).shLo = lo := rfl
@[simp] theorem State.setLatches_shOff (s : State) (hi lo : Byte) : (s.setLatches hi lo).shOff = s.shOff := rfl
@[simp] theorem State.setLatches_buttons (s : State) (hi lo : Byte) : (s.setLatches hi lo).buttons = s.buttons := rfl
@[simp] theorem State.setLatches_mem (s : State) (hi lo : Byte) : (s.setLatches hi lo).mem = s.mem := rfl
@[simp] theorem State.setLatches_reg (s : State) (hi lo : Byte) (r' : Reg) : (s.setLatches hi lo).reg r' = s.reg r' := rfl
@[simp] theorem State.setLatches_pair (s : State) (hi lo : Byte) (p' : RegPair) : (s.setLatches hi lo).pair p' = s.pair p' := rfl
@[simp] theorem State.setLatches_hl (s : State) (hi lo : Byte) : (s.setLatches hi lo).hl = s.hl := rfl
@[simp] theorem State.setLatches_read (s : State) (hi lo : Byte) (a' : Word) : (s.setLatches hi lo).read a' = s.read a' := rfl

@[simp] theorem State.setShOff_regs (s : State) (o : BitVec 3) : (s.setShOff o).regs = s.regs := rfl
@[simp] theorem State.setShOff_pc (s : State) (o : BitVec 3) : (s.setShOff o).pc = s.pc := rfl
@[simp] theorem State.setShOff_sp (s : State) (o : BitVec 3) : (s.setShOff o).sp = s.sp := rfl
@[simp] theorem State.setShOff_flags (s : State) (o : BitVec 3) : (s.setShOff o).flags = s.flags := rfl
@[simp] theorem State.setShOff_inte (s : State) (o : BitVec 3) : (s.setShOff o).inte = s.inte := rfl
@[simp] theorem State.setShOff_shHi (s : State) (o : BitVec 3) : (s.setShOff o).shHi = s.shHi := rfl
@[simp] theorem State.setShOff_shLo (s : State) (o : BitVec 3) : (s.setShOff o).shLo = s.shLo := rfl
@[simp] theorem State.setShOff_shOff (s : State) (o : BitVec 3) : (s.setShOff o).shOff = o := rfl
@[simp] theorem State.setShOff_buttons (s : State) (o : BitVec 3) : (s.setShOff o).buttons = s.buttons := rfl
@[simp] theorem State.setShOff_mem (s : State) (o : BitVec 3) : (s.setShOff o).mem = s.mem := rfl
@[simp] theorem State.setShOff_reg (s : State) (o : BitVec 3) (r' : Reg) : (s.setShOff o).reg r' = s.reg r' := rfl
@[simp] theorem State.setShOff_pair (s : State) (o : BitVec 3) (p' : RegPair) : (s.setShOff o).pair p' = s.pair p' := rfl
@[simp] theorem State.setShOff_hl (s : State) (o : BitVec 3) : (s.setShOff o).hl = s.hl := rfl
@[simp] theorem State.setShOff_read (s : State) (o : BitVec 3) (a' : Word) : (s.setShOff o).read a' = s.read a' := rfl

@[simp] theorem State.setButtons_regs (s : State) (b : Byte) : (s.setButtons b).regs = s.regs := rfl
@[simp] theorem State.setButtons_pc (s : State) (b : Byte) : (s.setButtons b).pc = s.pc := rfl
@[simp] theorem State.setButtons_sp (s : State) (b : Byte) : (s.setButtons b).sp = s.sp := rfl
@[simp] theorem State.setButtons_flags (s : State) (b : Byte) : (s.setButtons b).flags = s.flags := rfl
@[simp] theorem State.setButtons_inte (s : State) (b : Byte) : (s.setButtons b).inte = s.inte := rfl
@[simp] theorem State.setButtons_shHi (s : State) (b : Byte) : (s.setButtons b).shHi = s.shHi := rfl
@[simp] theorem State.setButtons_shLo (s : State) (b : Byte) : (s.setButtons b).shLo = s.shLo := rfl
@[simp] theorem State.setButtons_shOff (s : State) (b : Byte) : (s.setButtons b).shOff = s.shOff := rfl
@[simp] theorem State.setButtons_buttons (s : State) (b : Byte) : (s.setButtons b).buttons = b := rfl
@[simp] theorem State.setButtons_mem (s : State) (b : Byte) : (s.setButtons b).mem = s.mem := rfl
@[simp] theorem State.setButtons_reg (s : State) (b : Byte) (r' : Reg) : (s.setButtons b).reg r' = s.reg r' := rfl
@[simp] theorem State.setButtons_pair (s : State) (b : Byte) (p' : RegPair) : (s.setButtons b).pair p' = s.pair p' := rfl
@[simp] theorem State.setButtons_hl (s : State) (b : Byte) : (s.setButtons b).hl = s.hl := rfl
@[simp] theorem State.setButtons_read (s : State) (b : Byte) (a' : Word) : (s.setButtons b).read a' = s.read a' := rfl

@[simp] theorem State.write_regs (s : State) (a : Word) (v : Byte) : (s.write a v).regs = s.regs := rfl
@[simp] theorem State.write_pc (s : State) (a : Word) (v : Byte) : (s.write a v).pc = s.pc := rfl
@[simp] theorem State.write_sp (s : State) (a : Word) (v : Byte) : (s.write a v).sp = s.sp := rfl
@[simp] theorem State.write_flags (s : State) (a : Word) (v : Byte) : (s.write a v).flags = s.flags := rfl
@[simp] theorem State.write_inte (s : State) (a : Word) (v : Byte) : (s.write a v).inte = s.inte := rfl
@[simp] theorem State.write_shHi (s : State) (a : Word) (v : Byte) : (s.write a v).shHi = s.shHi := rfl
@[simp] theorem State.write_shLo (s : State) (a : Word) (v : Byte) : (s.write a v).shLo = s.shLo := rfl
@[simp] theorem State.write_shOff (s : State) (a : Word) (v : Byte) : (s.write a v).shOff = s.shOff := rfl
@[simp] theorem State.write_buttons (s : State) (a : Word) (v : Byte) : (s.write a v).buttons = s.buttons := rfl
@[simp] theorem State.write_mem (s : State) (a : Word) (v : Byte) : (s.write a v).mem = s.mem.write a.toNat v := rfl
@[simp] theorem State.write_reg (s : State) (a : Word) (v : Byte) (r' : Reg) : (s.write a v).reg r' = s.reg r' := rfl
@[simp] theorem State.write_pair (s : State) (a : Word) (v : Byte) (p' : RegPair) : (s.write a v).pair p' = s.pair p' := rfl
@[simp] theorem State.write_hl (s : State) (a : Word) (v : Byte) : (s.write a v).hl = s.hl := rfl

@[simp] theorem State.setPair_regs (s : State) (p : RegPair) (v : Word) : (s.setPair p v).regs = (s.regs.set (pairHi p) v.hi).set (pairLo p) v.lo := rfl
@[simp] theorem State.setPair_pc (s : State) (p : RegPair) (v : Word) : (s.setPair p v).pc = s.pc := rfl
@[simp] theorem State.setPair_sp (s : State) (p : RegPair) (v : Word) : (s.setPair p v).sp = s.sp := rfl
@[simp] theorem State.setPair_flags (s : State) (p : RegPair) (v : Word) : (s.setPair p v).flags = s.flags := rfl
@[simp] theorem State.setPair_inte (s : State) (p : RegPair) (v : Word) : (s.setPair p v).inte = s.inte := rfl
@[simp] theorem State.setPair_shHi (s : State) (p : RegPair) (v : Word) : (s.setPair p v).shHi = s.shHi := rfl
@[simp] theorem State.setPair_shLo (s : State) (p : RegPair) (v : Word) : (s.setPair p v).shLo = s.shLo := rfl
@[simp] theorem State.setPair_shOff (s : State) (p : RegPair) (v : Word) : (s.setPair p v).shOff = s.shOff := rfl
@[simp] theorem State.setPair_buttons (s : State) (p : RegPair) (v : Word) : (s.setPair p v).buttons = s.buttons := rfl
@[simp] theorem State.setPair_mem (s : State) (p : RegPair) (v : Word) : (s.setPair p v).mem = s.mem := rfl
@[simp] theorem State.setPair_read (s : State) (p : RegPair) (v : Word) (a' : Word) : (s.setPair p v).read a' = s.read a' := rfl

@[simp] theorem State.advance_regs (s : State) (n : Nat) : (s.advance n).regs = s.regs := rfl
@[simp] theorem State.advance_pc (s : State) (n : Nat) : (s.advance n).pc = s.pc + BitVec.ofNat 16 n := rfl
@[simp] theorem State.advance_sp (s : State) (n : Nat) : (s.advance n).sp = s.sp := rfl
@[simp] theorem State.advance_flags (s : State) (n : Nat) : (s.advance n).flags = s.flags := rfl
@[simp] theorem State.advance_inte (s : State) (n : Nat) : (s.advance n).inte = s.inte := rfl
@[simp] theorem State.advance_shHi (s : State) (n : Nat) : (s.advance n).shHi = s.shHi := rfl
@[simp] theorem State.advance_shLo (s : State) (n : Nat) : (s.advance n).shLo = s.shLo := rfl
@[simp] theorem State.advance_shOff (s : State) (n : Nat) : (s.advance n).shOff = s.shOff := rfl
@[simp] theorem State.advance_buttons (s : State) (n : Nat) : (s.advance n).buttons = s.buttons := rfl
@[simp] theorem State.advance_mem (s : State) (n : Nat) : (s.advance n).mem = s.mem := rfl
@[simp] theorem State.advance_reg (s : State) (n : Nat) (r' : Reg) : (s.advance n).reg r' = s.reg r' := rfl
@[simp] theorem State.advance_pair (s : State) (n : Nat) (p' : RegPair) : (s.advance n).pair p' = s.pair p' := rfl
@[simp] theorem State.advance_hl (s : State) (n : Nat) : (s.advance n).hl = s.hl := rfl
@[simp] theorem State.advance_read (s : State) (n : Nat) (a' : Word) : (s.advance n).read a' = s.read a' := rfl

@[simp] theorem State.write16_regs (s : State) (a v : Word) : (s.write16 a v).regs = s.regs := rfl
@[simp] theorem State.write16_pc (s : State) (a v : Word) : (s.write16 a v).pc = s.pc := rfl
@[simp] theorem State.write16_sp (s : State) (a v : Word) : (s.write16 a v).sp = s.sp := rfl
@[simp] theorem State.write16_flags (s : State) (a v : Word) : (s.write16 a v).flags = s.flags := rfl
@[simp] theorem State.write16_inte (s : State) (a v : Word) : (s.write16 a v).inte = s.inte := rfl
@[simp] theorem State.write16_shHi (s : State) (a v : Word) : (s.write16 a v).shHi = s.shHi := rfl
@[simp] theorem State.write16_shLo (s : State) (a v : Word) : (s.write16 a v).shLo = s.shLo := rfl
@[simp] theorem State.write16_shOff (s : State) (a v : Word) : (s.write16 a v).shOff = s.shOff := rfl
@[simp] theorem State.write16_buttons (s : State) (a v : Word) : (s.write16 a v).buttons = s.buttons := rfl
@[simp] theorem State.write16_mem (s : State) (a v : Word) : (s.write16 a v).mem = (s.mem.write a.toNat v.lo).write (a + 1).toNat v.hi := rfl
@[simp] theorem State.write16_reg (s : State) (a v : Word) (r' : Reg) : (s.write16 a v).reg r' = s.reg r' := rfl
@[simp] theorem State.write16_pair (s : State) (a v : Word) (p' : RegPair) : (s.write16 a v).pair p' = s.pair p' := rfl
@[simp] theorem State.write16_hl (s : State) (a v : Word) : (s.write16 a v).hl = s.hl := rfl

@[simp] theorem State.push16_regs (s : State) (v : Word) : (s.push16 v).regs = s.regs := rfl
@[simp] theorem State.push16_pc (s : State) (v : Word) : (s.push16 v).pc = s.pc := rfl
@[simp] theorem State.push16_sp (s : State) (v : Word) : (s.push16 v).sp = s.sp - 2 := rfl
@[simp] theorem State.push16_flags (s : State) (v : Word) : (s.push16 v).flags = s.flags := rfl
@[simp] theorem State.push16_inte (s : State) (v : Word) : (s.push16 v).inte = s.inte := rfl
@[simp] theorem State.push16_shHi (s : State) (v : Word) : (s.push16 v).shHi = s.shHi := rfl
@[simp] theorem State.push16_shLo (s : State) (v : Word) : (s.push16 v).shLo = s.shLo := rfl
@[simp] theorem State.push16_shOff (s : State) (v : Word) : (s.push16 v).shOff = s.shOff := rfl
@[simp] theorem State.push16_buttons (s : State) (v : Word) : (s.push16 v).buttons = s.buttons := rfl
@[simp] theorem State.push16_mem (s : State) (v : Word) : (s.push16 v).mem = (s.mem.write (s.sp - 1).toNat v.hi).write (s.sp - 2).toNat v.lo := rfl
@[simp] theorem State.push16_reg (s : State) (v : Word) (r' : Reg) : (s.push16 v).reg r' = s.reg r' := rfl
@[simp] theorem State.push16_pair (s : State) (v : Word) (p' : RegPair) : (s.push16 v).pair p' = s.pair p' := rfl
@[simp] theorem State.push16_hl (s : State) (v : Word) : (s.push16 v).hl = s.hl := rfl

@[simp] theorem State.dropTop16_regs (s : State) : (s.dropTop16).regs = s.regs := rfl
@[simp] theorem State.dropTop16_pc (s : State) : (s.dropTop16).pc = s.pc := rfl
@[simp] theorem State.dropTop16_sp (s : State) : (s.dropTop16).sp = s.sp + 2 := rfl
@[simp] theorem State.dropTop16_flags (s : State) : (s.dropTop16).flags = s.flags := rfl
@[simp] theorem State.dropTop16_inte (s : State) : (s.dropTop16).inte = s.inte := rfl
@[simp] theorem State.dropTop16_shHi (s : State) : (s.dropTop16).shHi = s.shHi := rfl
@[simp] theorem State.dropTop16_shLo (s : State) : (s.dropTop16).shLo = s.shLo := rfl
@[simp] theorem State.dropTop16_shOff (s : State) : (s.dropTop16).shOff = s.shOff := rfl
@[simp] theorem State.dropTop16_buttons (s : State) : (s.dropTop16).buttons = s.buttons := rfl
@[simp] theorem State.dropTop16_mem (s : State) : (s.dropTop16).mem = s.mem := rfl
@[simp] theorem State.dropTop16_reg (s : State) (r' : Reg) : (s.dropTop16).reg r' = s.reg r' := rfl
@[simp] theorem State.dropTop16_pair (s : State) (p' : RegPair) : (s.dropTop16).pair p' = s.pair p' := rfl
@[simp] theorem State.dropTop16_hl (s : State) : (s.dropTop16).hl = s.hl := rfl
@[simp] theorem State.dropTop16_read (s : State) (a' : Word) : (s.dropTop16).read a' = s.read a' := rfl

@[simp] theorem Regs.get_set (x : Regs) (r : Reg) (v : Byte) (r' : Reg) :
    (x.set r v).get r' = if r' = r then v else x.get r' := by
  cases r <;> cases r' <;> rfl

@[simp] theorem State.setReg_reg (s : State) (r : Reg) (v : Byte) (r' : Reg) :
    (s.setReg r v).reg r' = if r' = r then v else s.reg r' := by
  simp [State.reg]

@[simp] theorem State.setPair_pair (s : State) (p : RegPair) (v : Word) (p' : RegPair) :
    (s.setPair p v).pair p' = if p' = p then v else s.pair p' := by
  cases p <;> cases p' <;> simp [State.pair, State.setPair, pairHi, pairLo]

end Sys2Proof.Machine
end

