-- ==== Sys2Proof/Laws/Ports.lean ====
section
/-! SUPPORT. All a port write can do (R275 to R278 of 60_exceptions.md): the offset, the latches, or nothing. -/

namespace Sys2Proof.Machine

theorem State.portOut_cases (c : Config) (s : State) (p v : Byte) :
    (p = c.portOutOffset ∧ s.portOut c p v = s.setShOff (v.extractLsb' 0 3)) ∨
    (p ≠ c.portOutOffset ∧ p = c.portOutData ∧ s.portOut c p v = s.setLatches v s.shHi) ∨
    (p ≠ c.portOutOffset ∧ p ≠ c.portOutData ∧ s.portOut c p v = s) := by
  unfold State.portOut
  by_cases h : p = c.portOutOffset
  · exact .inl ⟨h, if_pos h⟩
  · by_cases g : p = c.portOutData
    · exact .inr (.inl ⟨h, g, by rw [if_neg h, if_pos g]⟩)
    · exact .inr (.inr ⟨h, g, by rw [if_neg h, if_neg g]⟩)

@[simp] theorem State.portOut_mem (c : Config) (s : State) (p v : Byte) : (s.portOut c p v).mem = s.mem := by
  rcases s.portOut_cases c p v with ⟨_, e⟩ | ⟨_, _, e⟩ | ⟨_, _, e⟩ <;> rw [e] <;> rfl

@[simp] theorem State.portOut_regs (c : Config) (s : State) (p v : Byte) : (s.portOut c p v).regs = s.regs := by
  rcases s.portOut_cases c p v with ⟨_, e⟩ | ⟨_, _, e⟩ | ⟨_, _, e⟩ <;> rw [e] <;> rfl

@[simp] theorem State.portOut_pc (c : Config) (s : State) (p v : Byte) : (s.portOut c p v).pc = s.pc := by
  rcases s.portOut_cases c p v with ⟨_, e⟩ | ⟨_, _, e⟩ | ⟨_, _, e⟩ <;> rw [e] <;> rfl

@[simp] theorem State.portOut_sp (c : Config) (s : State) (p v : Byte) : (s.portOut c p v).sp = s.sp := by
  rcases s.portOut_cases c p v with ⟨_, e⟩ | ⟨_, _, e⟩ | ⟨_, _, e⟩ <;> rw [e] <;> rfl

@[simp] theorem State.portOut_flags (c : Config) (s : State) (p v : Byte) : (s.portOut c p v).flags = s.flags := by
  rcases s.portOut_cases c p v with ⟨_, e⟩ | ⟨_, _, e⟩ | ⟨_, _, e⟩ <;> rw [e] <;> rfl

@[simp] theorem State.portOut_inte (c : Config) (s : State) (p v : Byte) : (s.portOut c p v).inte = s.inte := by
  rcases s.portOut_cases c p v with ⟨_, e⟩ | ⟨_, _, e⟩ | ⟨_, _, e⟩ <;> rw [e] <;> rfl

@[simp] theorem State.portOut_buttons (c : Config) (s : State) (p v : Byte) :
    (s.portOut c p v).buttons = s.buttons := by
  rcases s.portOut_cases c p v with ⟨_, e⟩ | ⟨_, _, e⟩ | ⟨_, _, e⟩ <;> rw [e] <;> rfl

end Sys2Proof.Machine
end

