-- ==== Sys2Proof/Laws/Sound.lean ====
section
/-! SUPPORT. Which updates keep memory in its canonical form: those that write it do, the rest leave it alone. -/

namespace Sys2Proof.Machine

theorem State.sound_of_mem {s t : State} (e : t.mem = s.mem) (h : s.Sound) : t.Sound := by
  unfold State.Sound
  rw [e]
  exact h

theorem State.sound_write {s : State} (a : Word) (v : Byte) (h : s.Sound) : (s.write a v).Sound :=
  Memory.wf_write v a.isLt h

theorem State.sound_write16 {s : State} (a v : Word) (h : s.Sound) : (s.write16 a v).Sound :=
  State.sound_write _ _ (State.sound_write _ _ h)

theorem State.sound_push16 {s : State} (v : Word) (h : s.Sound) : (s.push16 v).Sound :=
  State.sound_of_mem rfl (State.sound_write (s.sp - 2) v.lo (State.sound_write (s.sp - 1) v.hi h))

theorem State.sound_writeSrc {s : State} (dst : Src) (v : Byte) (h : s.Sound) : (s.writeSrc dst v).Sound := by
  cases dst with
  | reg r => exact State.sound_of_mem rfl h
  | m => exact State.sound_write _ _ h

theorem State.setRp_mem (s : State) (p : Rp) (v : Word) : (s.setRp p v).mem = s.mem := by
  cases p <;> rfl

end Sys2Proof.Machine
end

