-- ==== Sys2Proof/Laws/Step.lean ====
section
/-! SUPPORT. All a step can do (R70 of 30_encoding.md): the fault of the `UNIMPL_SET` check, or the fetched row's meaning; and what the parameters reach. -/

namespace Sys2Proof.Machine

/-- Under the spec's defaults a row does what `exec` says. -/
theorem execWith_config (i : Instr) (s : State) : execWith config i s = exec i s := by
  cases i <;> rfl

theorem execWith_dad (c : Config) (p : Rp) (s : State) :
    execWith c (.mkDad p) s = complete 1 (doDad c p) s := by
  cases p <;> rfl

theorem execWith_daa (c : Config) (s : State) : execWith c .daa s = complete 1 (doDaa c) s := rfl

theorem execWith_inPort (c : Config) (p8 : Byte) (s : State) :
    execWith c (.inPort p8) s = complete 2 (doIn c p8) s := rfl

theorem execWith_outPort (c : Config) (p8 : Byte) (s : State) :
    execWith c (.outPort p8) s = complete 2 (doOut c p8) s := rfl

/-- All the parameters can change of a row: DAD, DAA, IN and OUT; every other row is `exec`. -/
theorem execWith_cases (c : Config) (i : Instr) (s : State) :
    (∃ p, i = .mkDad p ∧ execWith c i s = complete 1 (doDad c p) s) ∨
    (i = .daa ∧ execWith c i s = complete 1 (doDaa c) s) ∨
    (∃ p8, i = .inPort p8 ∧ execWith c i s = complete 2 (doIn c p8) s) ∨
    (∃ p8, i = .outPort p8 ∧ execWith c i s = complete 2 (doOut c p8) s) ∨
    execWith c i s = exec i s := by
  cases i with
  | dadB => exact .inl ⟨.bc, rfl, rfl⟩
  | dadD => exact .inl ⟨.de, rfl, rfl⟩
  | dadH => exact .inl ⟨.hl, rfl, rfl⟩
  | dadSp => exact .inl ⟨.sp, rfl, rfl⟩
  | daa => exact .inr (.inl ⟨rfl, rfl⟩)
  | inPort p8 => exact .inr (.inr (.inl ⟨p8, rfl, rfl⟩))
  | outPort p8 => exact .inr (.inr (.inr (.inl ⟨p8, rfl, rfl⟩)))
  | _ => exact .inr (.inr (.inr (.inr rfl)))

theorem fetchExecute_cases (c : Config) (s : State) :
    (c.unimplSet.contains s.fetch.1 = true ∧ fetchExecute c s = raiseUnimplemented s.fetch.1 s) ∨
    (c.unimplSet.contains s.fetch.1 = false ∧ fetchExecute c s = execWith c s.fetched s) := by
  unfold fetchExecute
  cases h : c.unimplSet.contains s.fetch.1
  · exact .inr ⟨rfl, by simp⟩
  · exact .inl ⟨rfl, by simp⟩

/-- A step that answers a next state ran the fetched row. -/
theorem execWith_of_next {c : Config} {s t : State} (h : fetchExecute c s = .next t) :
    execWith c s.fetched s = .next t := by
  rcases fetchExecute_cases c s with ⟨_, e⟩ | ⟨_, e⟩
  · rw [e] at h
    cases h
  · rw [e] at h
    exact h

theorem exec_of_step_next {s t : State} (h : step s = .next t) : exec s.fetched s = .next t := by
  rw [← execWith_config]
  exact execWith_of_next h

end Sys2Proof.Machine
end

