-- ==== Sys2Proof/Tests/Slice0.lean ====
section
/-! SUPPORT. Tests. The decode rows are the lines of the opcode map R78 of 30_encoding.md; the expected results of the steps are the vectors of 95_test_vectors.md, named by their ids; the witnesses meet the hypotheses of the obligations. -/

namespace Sys2Proof.Tests

open Sys2Proof.Machine Sys2Proof.Claims

/-! ### WellFormed and Decode -/

/-- R79, R80: the twelve unimplemented rows are refused, one of each check. -/
theorem test_wellFormed_refuses_the_unimplemented_rows :
    [Instr.unimplemented08, .unimplemented10, .unimplemented18, .unimplemented20, .unimplemented28, .unimplemented30,
      .unimplemented38, .unimplementedCB, .unimplementedD9, .unimplementedDD, .unimplementedED,
      .unimplementedFD].map Instr.wellFormed = List.replicate 12 false := by decide

theorem test_wellFormed_accepts : [Instr.nop, .hlt, .mviB 0xFF#8, .jmp 0xFFFF#16, .rst7].all Instr.wellFormed = true := by decide

/-- One line of the opcode map: the high digit `hi`, the two bytes after the opcode 34 and 12. -/
def mapRow (hi : Nat) : List Instr := (List.range 16).map (fun lo => decodeOp (BitVec.ofNat 8 (16 * hi + lo)) 0x34#8 0x12#8)

theorem test_map_row_0 : mapRow 0x0 =
    [.nop, .lxiB 0x1234#16, .staxB, .inxB, .inrB, .dcrB, .mviB 0x34#8, .rlc,
      .unimplemented08, .dadB, .ldaxB, .dcxB, .inrC, .dcrC, .mviC 0x34#8, .rrc] := by decide

theorem test_map_row_1 : mapRow 0x1 =
    [.unimplemented10, .lxiD 0x1234#16, .staxD, .inxD, .inrD, .dcrD, .mviD 0x34#8, .ral,
      .unimplemented18, .dadD, .ldaxD, .dcxD, .inrE, .dcrE, .mviE 0x34#8, .rar] := by decide

theorem test_map_row_2 : mapRow 0x2 =
    [.unimplemented20, .lxiH 0x1234#16, .shld 0x1234#16, .inxH, .inrH, .dcrH, .mviH 0x34#8, .daa,
      .unimplemented28, .dadH, .lhld 0x1234#16, .dcxH, .inrL, .dcrL, .mviL 0x34#8, .cma] := by decide

theorem test_map_row_3 : mapRow 0x3 =
    [.unimplemented30, .lxiSp 0x1234#16, .sta 0x1234#16, .inxSp, .inrM, .dcrM, .mviM 0x34#8, .stc,
      .unimplemented38, .dadSp, .lda 0x1234#16, .dcxSp, .inrA, .dcrA, .mviA 0x34#8, .cmc] := by decide

theorem test_map_row_4 : mapRow 0x4 =
    [.movBB, .movBC, .movBD, .movBE, .movBH, .movBL, .movBM, .movBA,
      .movCB, .movCC, .movCD, .movCE, .movCH, .movCL, .movCM, .movCA] := by decide

theorem test_map_row_5 : mapRow 0x5 =
    [.movDB, .movDC, .movDD, .movDE, .movDH, .movDL, .movDM, .movDA,
      .movEB, .movEC, .movED, .movEE, .movEH, .movEL, .movEM, .movEA] := by decide

theorem test_map_row_6 : mapRow 0x6 =
    [.movHB, .movHC, .movHD, .movHE, .movHH, .movHL, .movHM, .movHA,
      .movLB, .movLC, .movLD, .movLE, .movLH, .movLL, .movLM, .movLA] := by decide

theorem test_map_row_7 : mapRow 0x7 =
    [.movMB, .movMC, .movMD, .movME, .movMH, .movML, .hlt, .movMA,
      .movAB, .movAC, .movAD, .movAE, .movAH, .movAL, .movAM, .movAA] := by decide

theorem test_map_row_8 : mapRow 0x8 =
    [.addB, .addC, .addD, .addE, .addH, .addL, .addM, .addA,
      .adcB, .adcC, .adcD, .adcE, .adcH, .adcL, .adcM, .adcA] := by decide

theorem test_map_row_9 : mapRow 0x9 =
    [.subB, .subC, .subD, .subE, .subH, .subL, .subM, .subA,
      .sbbB, .sbbC, .sbbD, .sbbE, .sbbH, .sbbL, .sbbM, .sbbA] := by decide

theorem test_map_row_A : mapRow 0xA =
    [.anaB, .anaC, .anaD, .anaE, .anaH, .anaL, .anaM, .anaA,
      .xraB, .xraC, .xraD, .xraE, .xraH, .xraL, .xraM, .xraA] := by decide

theorem test_map_row_B : mapRow 0xB =
    [.oraB, .oraC, .oraD, .oraE, .oraH, .oraL, .oraM, .oraA,
      .cmpB, .cmpC, .cmpD, .cmpE, .cmpH, .cmpL, .cmpM, .cmpA] := by decide

theorem test_map_row_C : mapRow 0xC =
    [.rnz, .popB, .jnz 0x1234#16, .jmp 0x1234#16, .cnz 0x1234#16, .pushB, .adi 0x34#8, .rst0,
      .rz, .ret, .jz 0x1234#16, .unimplementedCB, .cz 0x1234#16, .call 0x1234#16, .aci 0x34#8, .rst1] := by decide

theorem test_map_row_D : mapRow 0xD =
    [.rnc, .popD, .jnc 0x1234#16, .outPort 0x34#8, .cnc 0x1234#16, .pushD, .sui 0x34#8, .rst2,
      .rc, .unimplementedD9, .jc 0x1234#16, .inPort 0x34#8, .cc 0x1234#16, .unimplementedDD, .sbi 0x34#8, .rst3] := by decide

theorem test_map_row_E : mapRow 0xE =
    [.rpo, .popH, .jpo 0x1234#16, .xthl, .cpo 0x1234#16, .pushH, .ani 0x34#8, .rst4,
      .rpe, .pchl, .jpe 0x1234#16, .xchg, .cpe 0x1234#16, .unimplementedED, .xri 0x34#8, .rst5] := by decide

theorem test_map_row_F : mapRow 0xF =
    [.rp, .popPsw, .jp 0x1234#16, .di, .cp 0x1234#16, .pushPsw, .ori 0x34#8, .rst6,
      .rm, .sphl, .jm 0x1234#16, .ei, .cm 0x1234#16, .unimplementedFD, .cpi 0x34#8, .rst7] := by decide

/-- Bit by bit, one word of each family: R102 `01 110 sss`, R138 `00 pp 1001`, R156 `10 110 sss`, R187 `11 ccc 010`, R230 `11 pp 0101`, R250. -/
theorem test_decode_bit_patterns :
    decode [0b01110101#8] = .ok (.movML, []) ∧ decode [0b00111001#8] = .ok (.dadSp, []) ∧
    decode [0b10110111#8] = .ok (.oraA, []) ∧ decode [0b11110010#8, 0xFF#8, 0x80#8, 0x01#8] = .ok (.jp 0x80FF#16, [0x01#8]) ∧
    decode [0b11100101#8] = .ok (.pushH, []) ∧ decode [0b11001011#8] = .ok (.unimplementedCB, []) := by decide

/-- R71: an instruction needs as many bytes as its opcode demands. -/
theorem test_decode_refuses_truncated :
    decode [] = .error .noBytes ∧ decode [0xC3#8, 0x00#8] = .error (.truncated 0xC3#8 3 2) ∧
    decode [0x3E#8] = .error (.truncated 0x3E#8 2 1) := by decide

/-- The numbering of spec/opcode_table.json: byte 0 is the opcode, operand bytes above `nbits` are 0. -/
theorem test_decodeTableWord :
    decodeTableWord 24 0x1234C3 = some (.jmp 0x1234#16) ∧ decodeTableWord 8 0xC3 = some (.jmp 0#16) ∧
    decodeTableWord 8 0xCB = some .unimplementedCB := by decide

/-! ### One step each, from 95_test_vectors.md -/

/-- What a vector lists before or after a step. -/
inductive Edit where
  | reg (r : Reg) (v : Byte)
  | sp (w : Word)
  | z (b : Bool)
  | s (b : Bool)
  | p (b : Bool)
  | cy (b : Bool)
  | ac (b : Bool)
  | inte (b : Bool)
  | shHi (v : Byte)
  | shLo (v : Byte)
  | shOff (v : BitVec 3)
  | buttons (v : Byte)
  | mem (a : Word) (v : Byte)

def edit (t : State) (e : Edit) : State :=
  match e with
  | .reg r v => t.setReg r v
  | .sp w => t.setSp w
  | .z b => t.setFlags { t.flags with z := b }
  | .s b => t.setFlags { t.flags with s := b }
  | .p b => t.setFlags { t.flags with p := b }
  | .cy b => t.setFlags { t.flags with cy := b }
  | .ac b => t.setFlags { t.flags with ac := b }
  | .inte b => t.setInte b
  | .shHi v => { t with shHi := v }
  | .shLo v => { t with shLo := v }
  | .shOff v => t.setShOff v
  | .buttons v => t.setButtons v
  | .mem a v => t.write a v

/-- The reset state with `bytes` at `pc`, `pc` in PC, and the listed changes. -/
def start (pc : Word) (bytes : List Byte) (edits : List Edit) : State :=
  edits.foldl edit (({ State.reset with pc := pc }).load bytes pc.toNat)

/-- One step from the vector's state gives its whole after state, nothing else changed, and its outcome. -/
def runs (pc : Word) (bytes : List Byte) (before : List Edit) (pc' : Word) (after : List Edit) (r : StepReport) : Bool :=
  let s := start pc bytes before
  match step s with
  | .next t => decide (t = (after.foldl edit s).setPc pc') && decide (s.report config = r)
  | .fault _ => false
  | .refused _ => false

/-- One step from the vector's state faults with these two values. -/
def stops (pc : Word) (bytes : List Byte) (before : List Edit) (op : Byte) : Bool :=
  let s := start pc bytes before
  match step s with
  | .next _ => false
  | .fault f => decide (f = .unimplementedOpcode pc op) && decide (s.report config = .fault pc op)
  | .refused _ => false

theorem test_T1_1_mov : runs 0x0100 [0x41] [.reg .b 0x00, .reg .c 0x5A] 0x0101 [.reg .b 0x5A, .reg .c 0x5A] (.ok 5) = true := by decide

theorem test_T1_3_mov : runs 0x0100 [0x7E] [.reg .h 0x20, .reg .l 0x10, .mem 0x2010 0x77] 0x0101 [.reg .a 0x77] (.ok 7) = true := by decide

theorem test_T1_4_mov : runs 0x0100 [0x66] [.reg .h 0x20, .reg .l 0x10, .mem 0x2010 0x77] 0x0101 [.reg .h 0x77, .reg .l 0x10, .mem 0x2010 0x77] (.ok 7) = true := by decide

theorem test_T1_5_mov : runs 0x0100 [0x77] [.reg .h 0x24, .reg .l 0x00, .reg .a 0xFF] 0x0101 [.mem 0x2400 0xFF, .reg .a 0xFF] (.ok 7) = true := by decide

theorem test_T1_6_mov : runs 0x0100 [0x74] [.reg .h 0x20, .reg .l 0x05] 0x0101 [.mem 0x2005 0x20] (.ok 7) = true := by decide

theorem test_T1_7_mvi : runs 0x0100 [0x3E, 0x42] [] 0x0102 [.reg .a 0x42] (.ok 7) = true := by decide

theorem test_T1_8_mvi : runs 0x0100 [0x36, 0xAB] [.reg .h 0x20, .reg .l 0x00] 0x0102 [.mem 0x2000 0xAB] (.ok 10) = true := by decide

theorem test_T1_9_mvi : runs 0x0100 [0x36, 0x00, 0x76] [.reg .h 0x01, .reg .l 0x01] 0x0102 [.mem 0x0101 0x00] (.ok 10) = true := by decide

theorem test_T1_10_lxi : runs 0x0100 [0x21, 0x34, 0x12] [] 0x0103 [.reg .h 0x12, .reg .l 0x34] (.ok 10) = true := by decide

theorem test_T1_11_lxi : runs 0x0100 [0x31, 0x00, 0x24] [] 0x0103 [.sp 0x2400] (.ok 10) = true := by decide

theorem test_T1_13_lda : runs 0x0100 [0x3A, 0x50, 0x20] [.mem 0x2050 0x99] 0x0103 [.reg .a 0x99] (.ok 13) = true := by decide

theorem test_T1_14_sta : runs 0x0100 [0x32, 0x00, 0x21] [.reg .a 0x5C] 0x0103 [.mem 0x2100 0x5C] (.ok 13) = true := by decide

theorem test_T1_15_lhld : runs 0x0100 [0x2A, 0x00, 0x20] [.mem 0x2000 0xCD, .mem 0x2001 0xAB] 0x0103 [.reg .h 0xAB, .reg .l 0xCD] (.ok 16) = true := by decide

theorem test_T1_16_lhld : runs 0x0100 [0x2A, 0xFF, 0xFF] [.mem 0xFFFF 0x11, .mem 0x0000 0x22] 0x0103 [.reg .h 0x22, .reg .l 0x11] (.ok 16) = true := by decide

theorem test_T1_17_shld : runs 0x0100 [0x22, 0xFF, 0xFF] [.reg .h 0x12, .reg .l 0x34] 0x0103 [.mem 0xFFFF 0x34, .mem 0x0000 0x12] (.ok 16) = true := by decide

theorem test_T1_18_ldax : runs 0x0100 [0x1A] [.reg .d 0x1B, .reg .e 0x00, .mem 0x1B00 0x3C] 0x0101 [.reg .a 0x3C] (.ok 7) = true := by decide

theorem test_T1_21_stax : runs 0x0100 [0x12] [.reg .d 0x30, .reg .e 0x00, .reg .a 0xEE] 0x0101 [.mem 0x3000 0xEE] (.ok 7) = true := by decide

theorem test_T1_22_xchg : runs 0x0100 [0xEB] [.reg .h 0x12, .reg .l 0x34, .reg .d 0xAB, .reg .e 0xCD] 0x0101 [.reg .h 0xAB, .reg .l 0xCD, .reg .d 0x12, .reg .e 0x34] (.ok 4) = true := by decide

theorem test_T1_23_mvi : runs 0x0100 [0x06, 0xFF] [.z true, .s true, .p true, .cy true, .ac true] 0x0102 [.reg .b 0xFF, .z true, .s true, .p true, .cy true, .ac true] (.ok 7) = true := by decide

theorem test_T2_1_add : runs 0x0100 [0x82] [.reg .a 0x6C, .reg .d 0x2E] 0x0101 [.reg .a 0x9A, .z false, .s true, .p true, .cy false, .ac false] (.ok 4) = true := by decide

theorem test_T2_4_add : runs 0x0100 [0x80] [.reg .a 0x0F, .reg .b 0x01] 0x0101 [.reg .a 0x10, .z false, .s false, .p false, .cy false, .ac false] (.ok 4) = true := by decide

theorem test_T2_5_add : runs 0x0100 [0x86] [.reg .a 0x01, .reg .h 0x20, .reg .l 0x00, .mem 0x2000 0xFF] 0x0101 [.reg .a 0x00, .z true, .s false, .p true, .cy true, .ac true] (.ok 7) = true := by decide

theorem test_T2_6_adi : runs 0x0100 [0xC6, 0x42] [.reg .a 0x14] 0x0102 [.reg .a 0x56, .z false, .s false, .p true, .cy false, .ac false] (.ok 7) = true := by decide

theorem test_T2_7_adc : runs 0x0100 [0x8D] [.reg .a 0x42, .reg .l 0x3D, .cy true] 0x0101 [.reg .a 0x80, .z false, .s true, .p false, .cy false, .ac false] (.ok 4) = true := by decide

theorem test_T2_9_adc : runs 0x0100 [0x88] [.reg .a 0xFF, .reg .b 0x00, .cy true] 0x0101 [.reg .a 0x00, .z true, .s false, .p true, .cy true, .ac true] (.ok 4) = true := by decide

theorem test_T2_10_adc : runs 0x0100 [0x8E] [.reg .a 0x00, .reg .h 0x20, .reg .l 0x00, .cy true] 0x0101 [.reg .a 0x01, .z false, .s false, .p false, .cy false, .ac false] (.ok 7) = true := by decide

theorem test_T2_11_aci : runs 0x0100 [0xCE, 0xBE] [.reg .a 0x56, .cy false] 0x0102 [.reg .a 0x14, .z false, .s false, .p true, .cy true, .ac true] (.ok 7) = true := by decide

theorem test_T2_12_aci : runs 0x0100 [0xCE, 0x42] [.reg .a 0x14, .cy true, .ac true] 0x0102 [.reg .a 0x57, .z false, .s false, .p false, .cy false, .ac false] (.ok 7) = true := by decide

theorem test_T2_14_sub : runs 0x0100 [0x90] [.reg .a 0x00, .reg .b 0x01] 0x0101 [.reg .a 0xFF, .z false, .s true, .p true, .cy true, .ac true] (.ok 4) = true := by decide

theorem test_T2_16_sub : runs 0x0100 [0x96] [.reg .a 0x10, .reg .h 0x20, .reg .l 0x00, .mem 0x2000 0x20] 0x0101 [.reg .a 0xF0, .z false, .s true, .p true, .cy true, .ac true] (.ok 7) = true := by decide

theorem test_T2_17_sui : runs 0x0100 [0xD6, 0x01] [.reg .a 0x00] 0x0102 [.reg .a 0xFF, .z false, .s true, .p true, .cy true, .ac true] (.ok 7) = true := by decide

theorem test_T2_18_sbb : runs 0x0100 [0x9D] [.reg .a 0x04, .reg .l 0x02, .cy true] 0x0101 [.reg .a 0x01, .z false, .s false, .p false, .cy false, .ac false] (.ok 4) = true := by decide

theorem test_T2_19_sbb : runs 0x0100 [0x98] [.reg .a 0x00, .reg .b 0xFF, .cy true] 0x0101 [.reg .a 0x00, .z true, .s false, .p true, .cy true, .ac true] (.ok 4) = true := by decide

theorem test_T2_22_sbb : runs 0x0100 [0x9E] [.reg .a 0x05, .reg .h 0x20, .reg .l 0x00, .mem 0x2000 0x05, .cy true] 0x0101 [.reg .a 0xFF, .z false, .s true, .p true, .cy true, .ac true] (.ok 7) = true := by decide

theorem test_T2_23_sbi : runs 0x0100 [0xDE, 0x01] [.reg .a 0x00, .cy true] 0x0102 [.reg .a 0xFE, .z false, .s true, .p false, .cy true, .ac true] (.ok 7) = true := by decide

theorem test_T2_24_inr : runs 0x0100 [0x0C] [.reg .c 0x99, .cy true, .ac false] 0x0101 [.reg .c 0x9A, .z false, .s true, .p true, .cy true, .ac false] (.ok 5) = true := by decide

theorem test_T2_25_inr : runs 0x0100 [0x3C] [.reg .a 0xFF, .cy false, .ac true] 0x0101 [.reg .a 0x00, .z true, .s false, .p true, .cy false, .ac true] (.ok 5) = true := by decide

theorem test_T2_27_inr : runs 0x0100 [0x34] [.reg .h 0x20, .reg .l 0x00, .mem 0x2000 0x7F] 0x0101 [.mem 0x2000 0x80, .z false, .s true, .p false, .cy false, .ac false] (.ok 10) = true := by decide

theorem test_T2_29_dcr : runs 0x0100 [0x05] [.reg .b 0x00, .cy false] 0x0101 [.reg .b 0xFF, .z false, .s true, .p true, .cy false, .ac false] (.ok 5) = true := by decide

theorem test_T2_30_dcr : runs 0x0100 [0x35] [.reg .h 0x20, .reg .l 0x00, .mem 0x2000 0x00, .cy true] 0x0101 [.mem 0x2000 0xFF, .z false, .s true, .p true, .cy true, .ac false] (.ok 10) = true := by decide

theorem test_T2_31_inx : runs 0x0100 [0x13] [.reg .d 0x38, .reg .e 0xFF] 0x0101 [.reg .d 0x39, .reg .e 0x00, .z false, .s false, .p false, .cy false, .ac false] (.ok 5) = true := by decide

theorem test_T2_32_inx : runs 0x0100 [0x33] [.sp 0xFFFF] 0x0101 [.sp 0x0000, .z false, .s false, .p false, .cy false, .ac false] (.ok 5) = true := by decide

theorem test_T2_33_dcx : runs 0x0100 [0x2B] [.reg .h 0x98, .reg .l 0x00] 0x0101 [.reg .h 0x97, .reg .l 0xFF] (.ok 5) = true := by decide

theorem test_T2_34_dcx : runs 0x0100 [0x0B] [.reg .b 0x00, .reg .c 0x00, .z true] 0x0101 [.reg .b 0xFF, .reg .c 0xFF, .z true, .cy false] (.ok 5) = true := by decide

theorem test_T2_35_dad : runs 0x0100 [0x09] [.reg .b 0x33, .reg .c 0x9F, .reg .h 0xA1, .reg .l 0x7B] 0x0101 [.reg .h 0xD5, .reg .l 0x1A, .cy false, .ac false] (.ok 10) = true := by decide

theorem test_T2_36_dad : runs 0x0100 [0x29] [.reg .h 0x80, .reg .l 0x00, .z false] 0x0101 [.reg .h 0x00, .reg .l 0x00, .cy true, .ac true, .z false, .s false, .p false] (.ok 10) = true := by decide

theorem test_T2_39_daa : runs 0x0100 [0x27] [.reg .a 0x9B, .cy false, .ac false] 0x0101 [.reg .a 0x01, .cy true, .ac true, .z false, .s false, .p false] (.ok 4) = true := by decide

theorem test_T2_40_daa : runs 0x0100 [0x27] [.reg .a 0x45, .cy false, .ac false] 0x0101 [.reg .a 0x45, .cy false, .ac false, .z false, .s false, .p false] (.ok 4) = true := by decide

theorem test_T3_1_ana : runs 0x0100 [0xA1] [.reg .a 0xFC, .reg .c 0x0F] 0x0101 [.reg .a 0x0C, .z false, .s false, .p true, .cy false, .ac false] (.ok 4) = true := by decide

theorem test_T3_2_ana : runs 0x0100 [0xA7] [.reg .a 0x80, .cy true, .ac true] 0x0101 [.reg .a 0x80, .z false, .s true, .p false, .cy false, .ac false] (.ok 4) = true := by decide

theorem test_T3_3_ana : runs 0x0100 [0xA6] [.reg .a 0xFF, .reg .h 0x20, .reg .l 0x00, .mem 0x2000 0x80] 0x0101 [.reg .a 0x80, .z false, .s true, .p false, .cy false, .ac false] (.ok 7) = true := by decide

theorem test_T3_4_ani : runs 0x0100 [0xE6, 0x0F] [.reg .a 0x3A, .cy true] 0x0102 [.reg .a 0x0A, .z false, .s false, .p true, .cy false, .ac false] (.ok 7) = true := by decide

theorem test_T3_5_xra : runs 0x0100 [0xA8] [.reg .a 0x5C, .reg .b 0x78] 0x0101 [.reg .a 0x24, .z false, .s false, .p true, .cy false, .ac false] (.ok 4) = true := by decide

theorem test_T3_6_xra : runs 0x0100 [0xAF] [.reg .a 0xB7, .cy true, .ac true, .s true] 0x0101 [.reg .a 0x00, .z true, .s false, .p true, .cy false, .ac false] (.ok 4) = true := by decide

theorem test_T3_7_xra : runs 0x0100 [0xAE] [.reg .a 0xFF, .reg .h 0x20, .reg .l 0x00, .mem 0x2000 0x0F] 0x0101 [.reg .a 0xF0, .z false, .s true, .p true, .cy false, .ac false] (.ok 7) = true := by decide

theorem test_T3_8_xri : runs 0x0100 [0xEE, 0x81] [.reg .a 0x3B] 0x0102 [.reg .a 0xBA, .z false, .s true, .p false, .cy false, .ac false] (.ok 7) = true := by decide

theorem test_T3_9_ora : runs 0x0100 [0xB1] [.reg .a 0x33, .reg .c 0x0F] 0x0101 [.reg .a 0x3F, .z false, .s false, .p true, .cy false, .ac false] (.ok 4) = true := by decide

theorem test_T3_10_ora : runs 0x0100 [0xB6] [.reg .a 0x00, .reg .h 0x20, .reg .l 0x00] 0x0101 [.reg .a 0x00, .z true, .s false, .p true, .cy false, .ac false] (.ok 7) = true := by decide

theorem test_T3_11_ori : runs 0x0100 [0xF6, 0x0F] [.reg .a 0xB5] 0x0102 [.reg .a 0xBF, .z false, .s true, .p false, .cy false, .ac false] (.ok 7) = true := by decide

theorem test_T3_13_cmp : runs 0x0100 [0xBB] [.reg .a 0x02, .reg .e 0x05] 0x0101 [.reg .a 0x02, .z false, .s true, .p false, .cy true, .ac true] (.ok 4) = true := by decide

theorem test_T3_14_cmp : runs 0x0100 [0xBF] [.reg .a 0x9C, .cy true] 0x0101 [.reg .a 0x9C, .z true, .s false, .p true, .cy false, .ac false] (.ok 4) = true := by decide

theorem test_T3_15_cmp : runs 0x0100 [0xBE] [.reg .a 0x40, .reg .h 0x20, .reg .l 0x00, .mem 0x2000 0x40] 0x0101 [.reg .a 0x40, .mem 0x2000 0x40, .z true, .s false, .p true, .cy false, .ac false] (.ok 7) = true := by decide

theorem test_T3_16_cpi : runs 0x0100 [0xFE, 0x40] [.reg .a 0x4A] 0x0102 [.reg .a 0x4A, .z false, .s false, .p true, .cy false, .ac false] (.ok 7) = true := by decide

theorem test_T3_17_cpi : runs 0x0100 [0xFE, 0xFF] [.reg .a 0x00] 0x0102 [.reg .a 0x00, .z false, .s false, .p false, .cy true, .ac true] (.ok 7) = true := by decide

theorem test_T3_18_rlc : runs 0x0100 [0x07] [.reg .a 0xF2] 0x0101 [.reg .a 0xE5, .cy true, .z false, .s false, .p false, .ac false] (.ok 4) = true := by decide

theorem test_T3_19_rrc : runs 0x0100 [0x0F] [.reg .a 0xF2, .cy true] 0x0101 [.reg .a 0x79, .cy false] (.ok 4) = true := by decide

theorem test_T3_20_rrc : runs 0x0100 [0x0F] [.reg .a 0x01] 0x0101 [.reg .a 0x80, .cy true, .s false] (.ok 4) = true := by decide

theorem test_T3_21_ral : runs 0x0100 [0x17] [.reg .a 0xB5, .cy false] 0x0101 [.reg .a 0x6A, .cy true] (.ok 4) = true := by decide

theorem test_T3_22_ral : runs 0x0100 [0x17] [.reg .a 0x00, .cy true] 0x0101 [.reg .a 0x01, .cy false, .z false] (.ok 4) = true := by decide

theorem test_T3_23_rar : runs 0x0100 [0x1F] [.reg .a 0x6A, .cy true] 0x0101 [.reg .a 0xB5, .cy false] (.ok 4) = true := by decide

theorem test_T3_24_cma : runs 0x0100 [0x2F] [.reg .a 0x51, .z true, .cy true] 0x0101 [.reg .a 0xAE, .z true, .s false, .p false, .cy true, .ac false] (.ok 4) = true := by decide

theorem test_T3_25_cmc : runs 0x0100 [0x3F] [.cy true, .ac true] 0x0101 [.cy false, .ac true] (.ok 4) = true := by decide

theorem test_T3_26_cmc : runs 0x0100 [0x3F] [.cy false] 0x0101 [.cy true, .ac false] (.ok 4) = true := by decide

theorem test_T3_27_stc : runs 0x0100 [0x37] [.cy false] 0x0101 [.cy true, .ac false, .z false, .s false, .p false] (.ok 4) = true := by decide

theorem test_T4_1_jmp : runs 0x0000 [0xC3, 0x00, 0x18] [] 0x1800 [.sp 0x0000] (.ok 10) = true := by decide

theorem test_T4_3_jnz : runs 0x0100 [0xC2, 0x00, 0x02] [.z false] 0x0200 [] (.ok 10) = true := by decide

theorem test_T4_5_jz : runs 0x0100 [0xCA, 0x00, 0x02] [.z true] 0x0200 [] (.ok 10) = true := by decide

theorem test_T4_7_jnc : runs 0x0100 [0xD2, 0x00, 0x02] [.cy false] 0x0200 [] (.ok 10) = true := by decide

theorem test_T4_9_jc : runs 0x0100 [0xDA, 0x00, 0x02] [.cy true] 0x0200 [] (.ok 10) = true := by decide

theorem test_T4_11_jpo : runs 0x0100 [0xE2, 0x00, 0x02] [.p false] 0x0200 [] (.ok 10) = true := by decide

theorem test_T4_13_jpe : runs 0x0100 [0xEA, 0x00, 0x02] [.p true] 0x0200 [] (.ok 10) = true := by decide

theorem test_T4_15_jp : runs 0x0100 [0xF2, 0x00, 0x02] [.s false] 0x0200 [] (.ok 10) = true := by decide

theorem test_T4_17_jm : runs 0x0100 [0xFA, 0x00, 0x02] [.s true] 0x0200 [] (.ok 10) = true := by decide

theorem test_T4_19_call : runs 0x0100 [0xCD, 0x00, 0x02] [.sp 0x2400] 0x0200 [.sp 0x23FE, .mem 0x23FE 0x03, .mem 0x23FF 0x01] (.ok 17) = true := by decide

theorem test_T4_21_call : runs 0x0100 [0xCD, 0x00, 0x02] [.sp 0x0000] 0x0200 [.sp 0xFFFE, .mem 0xFFFE 0x03, .mem 0xFFFF 0x01] (.ok 17) = true := by decide

theorem test_T4_23_cnz : runs 0x0100 [0xC4, 0x00, 0x02] [.z true, .sp 0x2400] 0x0103 [.sp 0x2400, .mem 0x23FE 0x00, .mem 0x23FF 0x00] (.ok 11) = true := by decide

theorem test_T4_25_cz : runs 0x0100 [0xCC, 0x00, 0x02] [.z false, .sp 0x2400] 0x0103 [.sp 0x2400, .mem 0x23FE 0x00, .mem 0x23FF 0x00] (.ok 11) = true := by decide

theorem test_T4_27_cnc : runs 0x0100 [0xD4, 0x00, 0x02] [.cy true, .sp 0x2400] 0x0103 [.sp 0x2400, .mem 0x23FE 0x00, .mem 0x23FF 0x00] (.ok 11) = true := by decide

theorem test_T4_29_cc : runs 0x0100 [0xDC, 0x00, 0x02] [.cy false, .sp 0x2400] 0x0103 [.sp 0x2400, .mem 0x23FE 0x00, .mem 0x23FF 0x00] (.ok 11) = true := by decide

theorem test_T4_31_cpo : runs 0x0100 [0xE4, 0x00, 0x02] [.p true, .sp 0x2400] 0x0103 [.sp 0x2400, .mem 0x23FE 0x00, .mem 0x23FF 0x00] (.ok 11) = true := by decide

theorem test_T4_33_cpe : runs 0x0100 [0xEC, 0x00, 0x02] [.p false, .sp 0x2400] 0x0103 [.sp 0x2400, .mem 0x23FE 0x00, .mem 0x23FF 0x00] (.ok 11) = true := by decide

theorem test_T4_35_cp : runs 0x0100 [0xF4, 0x00, 0x02] [.s true, .sp 0x2400] 0x0103 [.sp 0x2400, .mem 0x23FE 0x00, .mem 0x23FF 0x00] (.ok 11) = true := by decide

theorem test_T4_37_cm : runs 0x0100 [0xFC, 0x00, 0x02] [.s false, .sp 0x2400] 0x0103 [.sp 0x2400, .mem 0x23FE 0x00, .mem 0x23FF 0x00] (.ok 11) = true := by decide

theorem test_T4_38_ret : runs 0x0200 [0xC9] [.sp 0x23FE, .mem 0x23FE 0x03, .mem 0x23FF 0x01] 0x0103 [.sp 0x2400] (.ok 10) = true := by decide

theorem test_T4_39_ret : runs 0x0200 [0xC9] [.sp 0xFFFF, .mem 0xFFFF 0x34, .mem 0x0000 0x12] 0x1234 [.sp 0x0001] (.ok 10) = true := by decide

theorem test_T4_40_rnz : runs 0x0200 [0xC0] [.z false, .sp 0x23FE, .mem 0x23FE 0x03, .mem 0x23FF 0x01] 0x0103 [.sp 0x2400] (.ok 11) = true := by decide

theorem test_T4_42_rz : runs 0x0200 [0xC8] [.z true, .sp 0x23FE, .mem 0x23FE 0x03, .mem 0x23FF 0x01] 0x0103 [.sp 0x2400] (.ok 11) = true := by decide

theorem test_T4_44_rnc : runs 0x0200 [0xD0] [.cy false, .sp 0x23FE, .mem 0x23FE 0x03, .mem 0x23FF 0x01] 0x0103 [.sp 0x2400] (.ok 11) = true := by decide

theorem test_T4_46_rc : runs 0x0200 [0xD8] [.cy true, .sp 0x23FE, .mem 0x23FE 0x03, .mem 0x23FF 0x01] 0x0103 [.sp 0x2400] (.ok 11) = true := by decide

theorem test_T4_48_rpo : runs 0x0200 [0xE0] [.p false, .sp 0x23FE, .mem 0x23FE 0x03, .mem 0x23FF 0x01] 0x0103 [.sp 0x2400] (.ok 11) = true := by decide

theorem test_T4_50_rpe : runs 0x0200 [0xE8] [.p true, .sp 0x23FE, .mem 0x23FE 0x03, .mem 0x23FF 0x01] 0x0103 [.sp 0x2400] (.ok 11) = true := by decide

theorem test_T4_52_rp : runs 0x0200 [0xF0] [.s false, .sp 0x23FE, .mem 0x23FE 0x03, .mem 0x23FF 0x01] 0x0103 [.sp 0x2400] (.ok 11) = true := by decide

theorem test_T4_54_rm : runs 0x0200 [0xF8] [.s true, .sp 0x23FE, .mem 0x23FE 0x03, .mem 0x23FF 0x01] 0x0103 [.sp 0x2400] (.ok 11) = true := by decide

theorem test_T4_56_rst : runs 0x1234 [0xD7] [.sp 0x2400] 0x0010 [.sp 0x23FE, .mem 0x23FE 0x35, .mem 0x23FF 0x12, .inte true] (.ok 11) = true := by decide

theorem test_T4_57_rst : runs 0x0100 [0xC7] [.sp 0x2400, .inte false] 0x0000 [.sp 0x23FE, .mem 0x23FE 0x01, .mem 0x23FF 0x01, .inte false] (.ok 11) = true := by decide

theorem test_T4_59_pchl : runs 0x0100 [0xE9] [.reg .h 0x41, .reg .l 0x3E, .sp 0x2400] 0x413E [.sp 0x2400, .reg .h 0x41, .reg .l 0x3E] (.ok 5) = true := by decide

theorem test_T5_1_push : runs 0x0100 [0xD5] [.reg .d 0x8F, .reg .e 0x9D, .sp 0x3A2C] 0x0101 [.mem 0x3A2B 0x8F, .mem 0x3A2A 0x9D, .sp 0x3A2A, .reg .d 0x8F, .reg .e 0x9D] (.ok 11) = true := by decide

theorem test_T5_2_push : runs 0x0100 [0xC5] [.reg .b 0x12, .reg .c 0x34, .sp 0x0001] 0x0101 [.mem 0x0000 0x12, .mem 0xFFFF 0x34, .sp 0xFFFF] (.ok 11) = true := by decide

theorem test_T5_3_push : runs 0x0100 [0xF5] [.reg .a 0x1F, .cy true, .z true, .p true, .s false, .ac false, .sp 0x502A] 0x0101 [.mem 0x5029 0x1F, .mem 0x5028 0x47, .sp 0x5028] (.ok 11) = true := by decide

theorem test_T5_5_push : runs 0x0100 [0xF5] [.reg .a 0xFF, .sp 0x2400, .z true, .s true, .p true, .cy true, .ac true] 0x0101 [.mem 0x23FF 0xFF, .mem 0x23FE 0xD7, .sp 0x23FE] (.ok 11) = true := by decide

theorem test_T5_6_pop : runs 0x0100 [0xE1] [.sp 0x1239, .mem 0x1239 0x3D, .mem 0x123A 0x93] 0x0101 [.reg .l 0x3D, .reg .h 0x93, .sp 0x123B, .mem 0x1239 0x3D, .mem 0x123A 0x93] (.ok 10) = true := by decide

theorem test_T5_7_pop : runs 0x0100 [0xF1] [.sp 0x2C00, .mem 0x2C00 0xC3, .mem 0x2C01 0xFF] 0x0101 [.reg .a 0xFF, .s true, .z true, .ac false, .p false, .cy true, .sp 0x2C02] (.ok 10) = true := by decide

theorem test_T5_8_pop : runs 0x0100 [0xF1] [.sp 0x2C00, .mem 0x2C00 0xFF, .mem 0x2C01 0x00] 0x0101 [.reg .a 0x00, .s true, .z true, .ac true, .p true, .cy true, .sp 0x2C02] (.ok 10) = true := by decide

theorem test_T5_10_xthl : runs 0x0100 [0xE3] [.sp 0x10AD, .reg .h 0x0B, .reg .l 0x3C, .mem 0x10AD 0xF0, .mem 0x10AE 0x0D] 0x0101 [.reg .h 0x0D, .reg .l 0xF0, .mem 0x10AD 0x3C, .mem 0x10AE 0x0B, .sp 0x10AD] (.ok 18) = true := by decide

theorem test_T5_11_sphl : runs 0x0100 [0xF9] [.reg .h 0x50, .reg .l 0x6C] 0x0101 [.sp 0x506C, .reg .h 0x50, .reg .l 0x6C] (.ok 5) = true := by decide

theorem test_T5_12_in : runs 0x0100 [0xDB, 0x03] [.shHi 0xAA, .shLo 0xFF, .shOff 4] 0x0102 [.reg .a 0xAF, .shHi 0xAA, .shLo 0xFF, .shOff 4] (.ok 10) = true := by decide

theorem test_T5_14_in : runs 0x0100 [0xDB, 0x03] [.shHi 0xAA, .shLo 0xFF, .shOff 7] 0x0102 [.reg .a 0x7F] (.ok 10) = true := by decide

theorem test_T5_19_out : runs 0x0100 [0xD3, 0x02] [.reg .a 0x0D] 0x0102 [.shOff 5, .reg .a 0x0D, .shHi 0x00, .shLo 0x00] (.ok 10) = true := by decide

theorem test_T5_20_out : runs 0x0100 [0xD3, 0x04] [.reg .a 0x5A, .shHi 0xAA, .shLo 0xFF] 0x0102 [.shHi 0x5A, .shLo 0xAA, .shOff 0] (.ok 10) = true := by decide

theorem test_T5_23_ei : runs 0x0100 [0xFB] [.inte false] 0x0101 [.inte true] (.ok 4) = true := by decide

theorem test_T5_24_di : runs 0x0100 [0xF3] [.inte true] 0x0101 [.inte false] (.ok 4) = true := by decide

theorem test_T5_25_hlt : runs 0x0005 [0x76] [] 0x0006 [.inte true] (.halt 7) = true := by decide

theorem test_T5_26_nop : runs 0xFFFF [0x00] [] 0x0000 [] (.ok 4) = true := by decide

theorem test_T6_1_opcode_08 : stops 0x0100 [0x08, 0x34, 0x12] [.reg .a 0x11, .sp 0x2400, .cy true] 0x08 = true := by decide

theorem test_T6_8_opcode_CB : stops 0x0100 [0xCB, 0x34, 0x12] [.reg .a 0x11, .sp 0x2400, .cy true] 0xCB = true := by decide

theorem test_T6_12_opcode_FD : stops 0x0100 [0xFD, 0x34, 0x12] [.reg .a 0x11, .sp 0x2400, .cy true] 0xFD = true := by decide

/-! ### Interrupts and ports, T7 and T8 -/

/-- T7.1 to T7.5: what `RequestInterrupt` leaves, as in `runs`. -/
def delivers (before : List Edit) (pc : Word) (requests : List (Fin 8)) (pc' : Word) (after : List Edit) : Bool :=
  let s := start pc [] before
  decide (requests.foldl (fun t v => t.requestInterrupt config v) s = (after.foldl edit s).setPc pc')

theorem test_T7_1 : delivers [.sp 0x2400] 0x1234 [1] 0x0008
    [.mem 0x23FF 0x12, .mem 0x23FE 0x34, .sp 0x23FE, .inte false] = true := by decide

theorem test_T7_3 : delivers [.sp 0x2400, .inte false] 0x1234 [1] 0x1234 [] = true := by decide

theorem test_T7_4 : delivers [.sp 0x0001] 0xABCD [1] 0x0008
    [.mem 0x0000 0xAB, .mem 0xFFFF 0xCD, .sp 0xFFFF, .inte false] = true := by decide

theorem test_T7_5 : delivers [.sp 0x2400] 0x1234 [2, 1] 0x0010
    [.mem 0x23FF 0x12, .mem 0x23FE 0x34, .sp 0x23FE, .inte false] = true := by decide

/-- T7.6 (D10): a request right after EI is delivered at once. -/
theorem test_T7_6 : hostRun config [.step, .requestInterrupt 2] (start 0x0100 [0xFB] [.sp 0x2400, .inte false]) =
    .running ([Edit.mem 0x23FE 0x01, .mem 0x23FF 0x01, .sp 0x23FE].foldl edit (start 0x0100 [0xFB] [.sp 0x2400, .inte false])
      |>.setPc 0x0010) := by decide

/-- The T8 table: every offset. -/
theorem test_T8_shifter : (List.range 8).map (fun n => (start 0 [] [.shHi 0xAA, .shLo 0xFF, .shOff (BitVec.ofNat 3 n)]).shiftOut) =
    [0xAA#8, 0x55#8, 0xAB#8, 0x57#8, 0xAF#8, 0x5F#8, 0xBF#8, 0x7F#8] := by decide

/-- S6: flag words, in the order S, Z, AC, P, CY. -/
theorem test_S6_flag_words :
    (Flags.mk false false false false false).word = 0x02#8 ∧ (Flags.mk true false true true false).word = 0x47#8 ∧
    (Flags.mk true true true true true).word = 0xD7#8 ∧ (Flags.ofWord 0x28#8).word = 0x02#8 := by decide

/-- R66: a load that ends at the boundary does not wrap. -/
theorem test_load_truncates : (State.reset.load [0x11, 0x22, 0x33] 0xFFFE).mem = [(0xFFFE, 0x11#8), (0xFFFF, 0x22#8)] ∧
    loadCount [0x11, 0x22, 0x33] 0xFFFE = 2 := by decide

/-- The fetch of the host's probe: the placed instruction runs first. -/
theorem test_withFetchWord : (step (State.reset.withFetchWord 16 0x423E) matches .next _) = true ∧
    (State.reset.withFetchWord 16 0x423E).fetched = .mviA 0x42#8 ∧
    (State.reset.withFetchWord 24 0x1234C3).fetched = .jmp 0x1234#16 := by decide

/-- The parameters of a run (R13): a byte put into `UNIMPL_SET` faults, a DAD that does not write AC leaves it. -/
theorem test_parameters_reach_the_step :
    hostRun { config with unimplSet := [0x00] } [.step] (start 0x0100 [0x00] []) =
      .failed (.unimplementedOpcode 0x0100 0x00) (start 0x0100 [0x00] []) ∧
    hostRun config [.step] (start 0x0100 [0x00] []) = .running ((start 0x0100 [0x00] []).setPc 0x0101) ∧
    hostRun { config with dadWritesAc := false } [.step] (start 0x0100 [0x29] [.ac true]) =
      .running ((start 0x0100 [0x29] [.ac true]).setPc 0x0101) := by decide

/-- R68 within the address space: the bytes of the range, in order. -/
theorem test_readRange : (start 0x2400 [0xAA, 0xFF] []).readRange 0x23FF 4 = [0x00#8, 0xAA#8, 0xFF#8, 0x00#8] := by decide

/-- The canonical form: writing the unlisted value removes the entry, and the list rises. -/
theorem test_memory_canonical :
    (((State.reset.write 0x2400 0xAA).write 0x0001 0x55).write 0x2400 0x00).mem = [(0x0001, 0x55#8)] ∧
    ((State.reset.write 0x2400 0xAA).write 0x0001 0x55).mem = [(0x0001, 0x55#8), (0x2400, 0xAA#8)] := by decide

/-! ### Witnesses: states and operands that meet the hypotheses of the obligations -/

/-- A state with every kind of value set. -/
def busy : State := start 0xFFFF [] [.reg .a 0x9B, .reg .h 0xFF, .reg .l 0xFF, .sp 0x0000, .inte true,
  .shHi 0xAA, .shLo 0xFF, .shOff 4, .mem 0xFFFF 0x21, .mem 0x0000 0x34, .mem 0x0001 0x12]

theorem busy_sound : busy.Sound := by
  unfold State.Sound
  decide

/-- The instruction wraps around the end of memory. -/
theorem witness_StepIsExecOfTheDecodedInstruction :
    decode [busy.read busy.pc, busy.read (busy.pc + 1), busy.read (busy.pc + 2)] = .ok (.lxiH 0x1234#16, []) ∧
    (Instr.lxiH 0x1234#16).wellFormed = true ∧ config.unimplSet.contains (busy.read busy.pc) = false := by decide

theorem witness_UnimplementedOpcodeStopsTheStep :
    config.unimplSet.contains ((start 0x0100 [0xCB] []).read (start 0x0100 [0xCB] []).pc) = true := by decide

theorem witness_UnimplementedRowsRaiseTheFault_row : Instr.unimplementedFD.unimplementedByte = some 0xFD#8 := by decide

theorem witness_UnimplementedRowsRaiseTheFault_step :
    step (start 0xFFFF [0x08] []) = .fault (.unimplementedOpcode 0xFFFF 0x08) := rfl

theorem witness_EverySupportedOpcodeIsTotal : Instr.hlt.wellFormed = true := by decide

theorem witness_StepKeepsStateSound : busy.Sound ∧ ∃ t, step busy = .next t := ⟨busy_sound, _, rfl⟩

theorem witness_StepKeepsStateSound_any_parameters :
    busy.Sound ∧ ∃ t, fetchExecute { config with unimplSet := [] } busy = .next t := ⟨busy_sound, _, rfl⟩

/-- The premise of the load clause and of the run clause. -/
theorem witness_HostTransactionsKeepStateSound : busy.Sound := busy_sound

theorem witness_SoundMemoriesThatReadAlikeAreEqual :
    busy.Sound ∧ (busy.setPc 0).Sound ∧ ∀ a : Word, busy.read a = (busy.setPc 0).read a :=
  ⟨busy_sound, busy_sound, fun _ => rfl⟩

/-- The last place a range can have in the address space. -/
theorem witness_DumpReturnsEveryByte_range : 1 < 3 ∧ 0xFFFE + 1 < 65536 := by decide

theorem witness_TwoByteAccesses_other_address : (0x0001#16 : Word) ≠ 0xFFFF#16 ∧ (0x0001#16 : Word) ≠ 0xFFFF#16 + 1 := by decide

theorem witness_PushStoresBelowTheStackPointer : busy.sp = 0#16 := by decide

theorem witness_DecimalAdjust_carry : (start 0 [] [.cy true]).flags.cy = true := by decide

/-- The largest valid digits, and the smallest. -/
theorem witness_DecimalAdjust_digits :
    ([0x99#8, 0x00#8].map (fun v => start 0 [] [.reg .a v])).all (fun s => !s.flags.cy && !s.flags.ac &&
      decide (s.regs.a.toNat % 16 ≤ 9) && decide (s.regs.a.toNat / 16 ≤ 9)) = true := by decide

theorem witness_DecimalAdjust_example : busy.flags.cy = false ∧ busy.flags.ac = false ∧ busy.regs.a = 0x9B#8 := by decide

/-- Each condition holds in one state and fails in another. -/
theorem witness_Calls_conditions :
    [Cond.nz, .nc, .po, .p].all (fun k => holds (start 0 [] []) k && !holds (start 0 [] [.z true, .s true, .p true, .cy true]) k) = true ∧
    [Cond.z, .c, .pe, .m].all (fun k => !holds (start 0 [] []) k && holds (start 0 [] [.z true, .s true, .p true, .cy true]) k) = true := by decide

theorem witness_Shifter_bit : 7 < 8 ∧ 0 < 8 := by decide

theorem witness_Shifter_offsets :
    (start 0 [] []).shOff = 0#3 ∧ (start 0 [] [.shOff 7]).shOff = 7#3 ∧
    busy.shHi = 0xAA#8 ∧ busy.shLo = 0xFF#8 ∧ busy.shOff = 4#3 := by decide

/-- Input ports: the inputs, the shifter, and others at both ends of the range. -/
theorem witness_PortReads :
    (1#8 = config.portInInputs) ∧ (3#8 ≠ config.portInInputs ∧ 3#8 = config.portInShift) ∧
    (0#8 ≠ config.portInInputs ∧ 0#8 ≠ config.portInShift) ∧
    (0xFF#8 ≠ config.portInInputs ∧ 0xFF#8 ≠ config.portInShift) := by decide

theorem witness_InputByte : (start 0 [] [.buttons 0xF7]).buttons.getLsbD 3 = false := by decide

/-- Output ports: the offset, the data, and others at both ends of the range. -/
theorem witness_PortWrites :
    (2#8 = config.portOutOffset) ∧ (4#8 ≠ config.portOutOffset ∧ 4#8 = config.portOutData) ∧
    (0#8 ≠ config.portOutOffset ∧ 0#8 ≠ config.portOutData) ∧
    (0xFF#8 ≠ config.portOutOffset ∧ 0xFF#8 ≠ config.portOutData) := by decide

theorem witness_Interrupts : busy.inte = true ∧ (busy.setInte false).inte = false := by decide

/-- EI and DI change INTE, OUT changes the latches. -/
theorem witness_ControlState :
    (∃ t, step (start 0 [0xFB] [.inte false]) = .next t ∧ t.inte ≠ (start 0 [0xFB] [.inte false]).inte) ∧
    (∃ t, step (start 0 [0xF3] []) = .next t ∧ t.inte ≠ (start 0 [0xF3] []).inte) ∧
    (∃ t, step busy = .next t ∧ ∀ p8, busy.fetched ≠ .outPort p8) :=
  ⟨⟨_, rfl, by decide⟩, ⟨_, rfl, by decide⟩, ⟨_, rfl, fun _ h => by cases h⟩⟩

theorem witness_FlagsAreWritten :
    (∃ t, exec .subA busy = .next t ∧ t.flags ≠ busy.flags ∧ t.flags.z ≠ busy.flags.z) ∧
    (∃ t, exec .dadH busy = .next t ∧ t.flags.ac ≠ busy.flags.ac) ∧
    (∃ t, exec .stc busy = .next t ∧ t.flags.cy ≠ busy.flags.cy) :=
  ⟨⟨_, rfl, by decide, by decide⟩, ⟨_, rfl, by decide⟩, ⟨_, rfl, by decide⟩⟩

theorem witness_MemoryAndSp :
    (∃ t, exec .pushPsw busy = .next t ∧ (∃ a : Word, t.read a ≠ busy.read a) ∧ t.sp ≠ busy.sp) :=
  ⟨_, rfl, ⟨0xFFFE#16, by decide⟩, by decide⟩

theorem witness_PcMoves : (∃ t, exec .nop busy = .next t) ∧ ¬ TransfersControl .nop := by
  refine ⟨⟨_, rfl⟩, ?_⟩
  rintro (⟨_, h⟩ | ⟨k, _, h⟩ | ⟨_, h⟩ | ⟨k, _, h⟩ | h | ⟨k, h⟩ | ⟨n, h⟩ | h) <;>
    first
    | cases h
    | (cases k <;> cases h)
    | (fin_cases n <;> cases h)

theorem witness_ReportAgrees :
    busy.report config = .ok 10 ∧ (start 0 [0x76] []).report config = .halt 7 ∧ (start 0 [0x76] []).fetched = .hlt ∧
    (start 0 [0xFD] []).report config = .fault 0 0xFD#8 ∧ config.unimplSet.contains ((start 0 [0x76] []).read 0) = false := by decide

theorem witness_CostOfConditional :
    (start 0 [0xC4, 0x34, 0x12] []).fetched = .mkCcc .nz 0x1234#16 ∧ (start 0 [0xF8] []).fetched = .mkRcc .m ∧
    (start 0 [0xCA, 0x34, 0x12] []).fetched = .mkJcc .z 0x1234#16 ∧ (start 0 [0xCD, 0x34, 0x12] []).fetched = .call 0x1234#16 ∧
    (start 0 [0xC9] []).fetched = .ret ∧ (start 0 [0xC3, 0x34, 0x12] []).fetched = .jmp 0x1234#16 ∧
    (start 0 [0x76] []).fetched = .hlt := by decide

/-- A row that is no conditional, HLT among them, and a conditional one, each outside the set of the parameters. -/
theorem witness_Cost_any_parameters :
    (¬ Conditional busy.fetched ∧ busy.fetched.wellFormed = true ∧ config.unimplSet.contains (busy.read busy.pc) = false) ∧
    (¬ Conditional (start 0 [0x76] []).fetched ∧ (start 0 [0x76] []).fetched.wellFormed = true ∧
      config.unimplSet.contains ((start 0 [0x76] []).read 0) = false) ∧
    ((start 0 [0xF8] []).fetched = .mkRcc .m ∧ (start 0 [0xF8] []).fetched.wellFormed = true ∧
      config.unimplSet.contains ((start 0 [0xF8] []).read 0) = false) := by
  refine ⟨⟨?_, by decide, by decide⟩, ⟨?_, by decide, by decide⟩, by decide⟩ <;>
    (rintro (⟨k, _, h⟩ | ⟨k, _, h⟩ | ⟨k, h⟩) <;> cases k <;> cases h)

theorem witness_RunEnds :
    config.unimplSet.contains ((start 0 [0x08] []).read (start 0 [0x08] []).pc) = true ∧
    (start 0 [0x76] []).fetched = .hlt ∧ config.unimplSet.contains ((start 0 [0x76] []).read 0) = false := by decide

theorem witness_RunGoesOn : busy.fetched ≠ .hlt ∧ (∃ t, step busy = .next t) ∧ ∃ t, fetchExecute config busy = .next t :=
  ⟨by decide, ⟨_, rfl⟩, ⟨_, rfl⟩⟩

end Sys2Proof.Tests
end

section
/-! PROOFS. The opcode byte a fetched row has, and what a step answers when its opcode faults and when it does not (R70, R80 of 30_encoding.md, R250, R253 of 60_exceptions.md). -/

namespace Sys2Proof

theorem opField_lt (op : Byte) (lo width : Nat) : opField op lo width < 2 ^ width :=
  BitVec.isLt _

/-- The three fields of R72 make up the opcode byte. -/
theorem toNat_eq_opFields (op : Byte) :
    op.toNat = 64 * opField op 6 2 + 8 * opField op 3 3 + opField op 0 3 := by
  simp only [opField, BitVec.extractLsb'_toNat, Nat.shiftRight_eq_div_pow]
  omega

theorem toNat_opcode_decodeGroup0 {y z : Nat} (hy : y < 8) (hz : z < 8) (d8 : Byte) (d16 : Word) :
    (decodeGroup0 y z d8 d16).opcode.toNat = 8 * y + z := by
  interval_cases z <;> interval_cases y <;> rfl

theorem toNat_opcode_decodeGroup1 {y z : Nat} (hy : y < 8) (hz : z < 8) :
    (decodeGroup1 y z).opcode.toNat = 64 + 8 * y + z := by
  interval_cases y <;> interval_cases z <;> rfl

theorem toNat_opcode_mkAlu_of_codes {y z : Nat} (hy : y < 8) (hz : z < 8) :
    (Instr.mkAlu (aluOfCode y) (srcOfCode z)).opcode.toNat = 128 + 8 * y + z := by
  interval_cases y <;> interval_cases z <;> rfl

theorem toNat_opcode_decodeGroup3 {y z : Nat} (hy : y < 8) (hz : z < 8) (d8 : Byte) (d16 : Word) :
    (decodeGroup3 y z d8 d16).opcode.toNat = 192 + 8 * y + z := by
  interval_cases z <;> interval_cases y <;> rfl

/-- A decoded row stands at its own byte of the opcode map: the patterns of R77 and the map of R78 agree. -/
theorem opcode_decodeOp (op b2 b3 : Byte) : (decodeOp op b2 b3).opcode = op := by
  have hx : opField op 6 2 < 4 := opField_lt op 6 2
  have hy : opField op 3 3 < 8 := opField_lt op 3 3
  have hz : opField op 0 3 < 8 := opField_lt op 0 3
  apply BitVec.eq_of_toNat_eq
  rw [toNat_eq_opFields op]
  obtain h | h | h | h :
      opField op 6 2 = 0 ∨ opField op 6 2 = 1 ∨ opField op 6 2 = 2 ∨ opField op 6 2 = 3 := by omega
  · simp only [decodeOp, h, toNat_opcode_decodeGroup0 hy hz]
    omega
  · simp only [decodeOp, h, toNat_opcode_decodeGroup1 hy hz]
  · simp only [decodeOp, h, toNat_opcode_mkAlu_of_codes hy hz]
  · simp only [decodeOp, h, toNat_opcode_decodeGroup3 hy hz]

theorem Instr.opcode_of_unimplementedByte {i : Instr} {op : Byte} (h : i.unimplementedByte = some op) :
    i.opcode = op := by
  cases i <;> cases h <;> rfl

end Sys2Proof

namespace Sys2Proof.Machine

@[simp] theorem State.fetch_opcode (s : State) : s.fetch.1 = s.read s.pc := rfl

theorem State.opcode_fetched (s : State) : s.fetched.opcode = s.read s.pc := opcode_decodeOp _ _ _

/-- R253: an instruction completes from every state. -/
theorem exec_next_of_wellFormed {i : Instr} (h : i.wellFormed = true) (s : State) : ∃ t, exec i s = .next t := by
  cases i with
  | unimplemented08 | unimplemented10 | unimplemented18 | unimplemented20 | unimplemented28 | unimplemented30
  | unimplemented38 | unimplementedCB | unimplementedD9 | unimplementedDD | unimplementedED
  | unimplementedFD => cases h
  | _ => exact ⟨_, rfl⟩

theorem execWith_next_of_wellFormed (c : Config) {i : Instr} (h : i.wellFormed = true) (s : State) :
    ∃ t, execWith c i s = .next t := by
  rcases execWith_cases c i s with ⟨_, _, e⟩ | ⟨_, e⟩ | ⟨_, _, e⟩ | ⟨_, _, e⟩ | e
  iterate 4 exact ⟨_, e⟩
  rw [e]
  exact exec_next_of_wellFormed h s

/-- A row that is no instruction raises R250's fault under any parameters. -/
theorem execWith_unimplemented (c : Config) {i : Instr} {op : Byte} (h : i.unimplementedByte = some op) (s : State) :
    execWith c i s = raiseUnimplemented op s := by
  cases i <;> cases h <;> rfl

theorem State.faults_of_wellFormed {s : State} (c : Config) (h : s.fetched.wellFormed = true) :
    s.faults c = c.unimplSet.contains (s.read s.pc) := by
  simp [State.faults, h]

theorem fetchExecute_of_faults {c : Config} {s : State} (h : s.faults c = true) :
    fetchExecute c s = .fault (.unimplementedOpcode s.pc (s.read s.pc)) := by
  rcases fetchExecute_cases c s with ⟨_, e⟩ | ⟨hset, e⟩
  · exact e
  · cases hop : s.fetched.unimplementedByte with
    | none =>
      have hwf : s.fetched.wellFormed = true := by simp [Instr.wellFormed, hop]
      cases hset.symm.trans ((s.faults_of_wellFormed c hwf).symm.trans h)
    | some op =>
      have hb : op = s.read s.pc := by rw [← Instr.opcode_of_unimplementedByte hop, s.opcode_fetched]
      rw [e, execWith_unimplemented c hop, hb]
      rfl

theorem fetchExecute_of_not_faults {c : Config} {s : State} (h : s.faults c = false) :
    ∃ t, fetchExecute c s = .next t := by
  obtain ⟨hset, hwf⟩ : c.unimplSet.contains (s.read s.pc) = false ∧ s.fetched.wellFormed = true := by
    simpa [State.faults] using h
  rcases fetchExecute_cases c s with ⟨hin, _⟩ | ⟨_, e⟩
  · cases hset.symm.trans hin
  · rw [e]
    exact execWith_next_of_wellFormed c hwf s

end Sys2Proof.Machine
end

section
/-! PROOFS. The outcome a step reports and the outcome it answers (R7 of 00_scope.md, R240 of 44_stack_io_control.md, R250 of 60_exceptions.md). -/

namespace Sys2Proof.Machine

/-- The three outcomes of R7, each with what it is reported for and what the step answers there. -/
theorem State.report_cases (c : Config) (s : State) :
    (s.faults c = true ∧ s.report c = .fault s.pc (s.read s.pc) ∧
      fetchExecute c s = .fault (.unimplementedOpcode s.pc (s.read s.pc))) ∨
    (s.faults c = false ∧ s.fetched = .hlt ∧ s.report c = .halt (s.cost c) ∧ ∃ t, fetchExecute c s = .next t) ∨
    (s.faults c = false ∧ s.fetched ≠ .hlt ∧ s.report c = .ok (s.cost c) ∧ ∃ t, fetchExecute c s = .next t) := by
  cases hf : s.faults c with
  | true => exact .inl ⟨rfl, by simp [State.report, hf], fetchExecute_of_faults hf⟩
  | false =>
    have hnext := fetchExecute_of_not_faults hf
    by_cases hlt : s.fetched = .hlt
    · exact .inr (.inl ⟨rfl, hlt, by simp [State.report, hf, hlt], hnext⟩)
    · exact .inr (.inr ⟨rfl, hlt, by simp [State.report, hf, hlt], hnext⟩)

theorem State.report_eq_fault_iff (c : Config) (s : State) (pc : Word) (op : Byte) :
    s.report c = .fault pc op ↔ fetchExecute c s = .fault (.unimplementedOpcode pc op) := by
  rcases s.report_cases c with ⟨_, hr, he⟩ | ⟨_, _, hr, t, he⟩ | ⟨_, _, hr, t, he⟩ <;> simp [hr, he]

theorem State.report_eq_halt_iff (c : Config) (s : State) :
    (∃ n, s.report c = .halt n) ↔ s.fetched = .hlt ∧ c.unimplSet.contains (s.read s.pc) = false := by
  have hset (hlt : s.fetched = .hlt) : s.faults c = c.unimplSet.contains (s.read s.pc) :=
    s.faults_of_wellFormed c (by rw [hlt]; rfl)
  rcases s.report_cases c with ⟨hf, hr, _⟩ | ⟨hf, hlt, hr, _⟩ | ⟨_, hne, hr, _⟩
  · have hno : ¬ (s.fetched = .hlt ∧ c.unimplSet.contains (s.read s.pc) = false) := by
      rintro ⟨hlt, hout⟩
      rw [hset hlt, hout] at hf
      cases hf
    simp only [hr, hno, reduceCtorEq, exists_false]
  · exact iff_of_true ⟨_, hr⟩ ⟨hlt, (hset hlt).symm.trans hf⟩
  · simp [hr, hne]

theorem State.fetchExecute_next_of_report {c : Config} {s : State} {n : Nat}
    (h : s.report c = .ok n ∨ s.report c = .halt n) : ∃ t, fetchExecute c s = .next t := by
  rcases s.report_cases c with ⟨_, hr, _⟩ | ⟨_, _, _, hnext⟩ | ⟨_, _, _, hnext⟩
  · simp [hr] at h
  · exact hnext
  · exact hnext

/-- HLT's byte, 0x76, is none of the twelve of R79. -/
theorem State.hlt_not_in_default_unimplSet {s : State} (h : s.fetched = .hlt) :
    config.unimplSet.contains (s.read s.pc) = false := by
  rw [← s.opcode_fetched, h]
  decide

end Sys2Proof.Machine

namespace Sys2Proof

open Machine

/-- Settles O58: under any parameters the report follows the step (`State.report_cases`), and under the
defaults HLT's byte is never in `UNIMPL_SET`. -/
theorem reportAgreesWithTheStep : Obligations.ReportAgreesWithTheStep := by
  intro s
  refine ⟨s.report_eq_fault_iff config, ?_, fun n h => State.fetchExecute_next_of_report (.inl h), fun c =>
    ⟨s.report_eq_fault_iff c, s.report_eq_halt_iff c, fun n h => State.fetchExecute_next_of_report h⟩⟩
  rw [s.report_eq_halt_iff config]
  exact and_iff_left_of_imp State.hlt_not_in_default_unimplSet

end Sys2Proof
end

section
/-! PROOFS. The flag word: the bits it packs, the sum of their weights, and reading them back (R34 of 10_state.md). -/

namespace Sys2Proof.Machine

theorem bitAt_true (i : Nat) : bitAt true i = BitVec.twoPow 8 i := by
  apply BitVec.eq_of_toNat_eq
  simp [bitAt, BitVec.toNat_twoPow, Nat.one_shiftLeft]

theorem getLsbD_bitAt (b : Bool) {i : Nat} (hi : i < 8) (j : Nat) :
    (bitAt b i).getLsbD j = (b && decide (i = j)) := by
  cases b with
  | false => simp [bitAt]
  | true => simp [bitAt_true, BitVec.getLsbD_twoPow, hi]

theorem toNat_bitAt (b : Bool) {i : Nat} (hi : i < 8) : (bitAt b i).toNat = 2 ^ i * b.toNat := by
  cases b with
  | false => simp [bitAt]
  | true => simp [bitAt_true, BitVec.toNat_twoPow_of_lt hi]

/-- A bit put where a byte has none adds its weight. -/
theorem toNat_or_bitAt {x : Byte} (b : Bool) {i : Nat} (hi : i < 8) (hx : x.getLsbD i = false) :
    (x ||| bitAt b i).toNat = x.toNat + 2 ^ i * b.toNat := by
  have hdisj : x &&& bitAt b i = 0#8 := by
    apply BitVec.eq_of_getLsbD_eq
    intro j _
    by_cases hij : i = j
    · simp [← hij, hx]
    · simp [getLsbD_bitAt b hi, hij]
  rw [← BitVec.add_eq_or_of_and_eq_zero x _ hdisj, BitVec.toNat_add_of_and_eq_zero hdisj, toNat_bitAt b hi]

theorem Flags.getLsbD_word (f : Flags) (j : Nat) : f.word.getLsbD j =
    (f.s && decide (7 = j) || f.z && decide (6 = j) || f.ac && decide (4 = j) || f.p && decide (2 = j) ||
      decide (1 = j) || f.cy && decide (0 = j)) := by
  simp [Flags.word, getLsbD_bitAt]

/-- R34: each flag stands in a bit of its own, so the flag word is the sum of their weights. -/
theorem Flags.toNat_word (f : Flags) : f.word.toNat =
    128 * f.s.toNat + 64 * f.z.toNat + 16 * f.ac.toNat + 4 * f.p.toNat + 2 + f.cy.toNat := by
  rw [Flags.word, toNat_or_bitAt, toNat_or_bitAt, toNat_or_bitAt, toNat_or_bitAt, toNat_or_bitAt, toNat_bitAt]
  · simp
  all_goals simp [getLsbD_bitAt, -BitVec.getLsbD_eq_getElem]

theorem Flags.ofWord_eq_testBit (b : Byte) : Flags.ofWord b =
    { cy := b.toNat.testBit 0, p := b.toNat.testBit 2, ac := b.toNat.testBit 4, z := b.toNat.testBit 6,
      s := b.toNat.testBit 7 } := by
  simp only [Flags.ofWord, BitVec.testBit_toNat]

/-- A pop reads exactly the bits at which a push puts the flags, so the forced bits do not come back. -/
@[simp] theorem Flags.ofWord_word (f : Flags) : Flags.ofWord f.word = f := by
  simp [Flags.ofWord, Flags.getLsbD_word, -BitVec.getLsbD_eq_getElem]

/-- The least flag word is the forced bit alone, the greatest has all five flags set. -/
theorem Flags.toNat_word_bounds (f : Flags) : 0x02 ≤ f.word.toNat ∧ f.word.toNat ≤ 0xD7 := by
  rw [f.toNat_word]
  have hs := f.s.toNat_le
  have hz := f.z.toNat_le
  have hac := f.ac.toNat_le
  have hp := f.p.toNat_le
  have hcy := f.cy.toNat_le
  omega

end Sys2Proof.Machine

namespace Sys2Proof

open Machine

/-- Settles O39: the weights are those of `Flags.toNat_word`, from which the range follows, and
`Flags.ofWord_word` is the round trip. -/
theorem flagWordPackingAndUnpacking : Obligations.FlagWordPackingAndUnpacking :=
  ⟨Flags.toNat_word, Flags.ofWord_eq_testBit, Flags.ofWord_word, Flags.toNat_word_bounds⟩

end Sys2Proof
end

section
/-! PROOFS. Memory accesses: what each address reads after a write, a two-byte write and a push, and that a pop undoes a push (R50 to R55 of 20_memory.md). -/

namespace Sys2Proof

theorem Word.lo_eq_ofNat (w : Word) : w.lo = BitVec.ofNat 8 w.toNat := by
  apply BitVec.eq_of_toNat_eq
  rw [Word.toNat_lo, BitVec.toNat_ofNat]

theorem Word.hi_eq_ofNat (w : Word) : w.hi = BitVec.ofNat 8 (w.toNat / 256) := by
  apply BitVec.eq_of_toNat_eq
  have := w.isLt
  rw [Word.toNat_hi, BitVec.toNat_ofNat, Nat.mod_eq_of_lt (by omega)]

end Sys2Proof

namespace Sys2Proof.Machine

theorem State.write_frame (s : State) (a : Word) (v : Byte) : { s.write a v with mem := s.mem } = s := rfl

theorem State.created_read (c : Config) (a : Word) : (State.created c).read a = 0#8 := rfl

/-- R52, byte by byte. -/
theorem State.read_write16 (s : State) (a v x : Word) : (s.write16 a v).read x =
    if x = a + 1 then v.hi else if x = a then v.lo else s.read x := by
  simp only [State.write16, State.read_write]

theorem State.write16_frame (s : State) (a v : Word) : { s.write16 a v with mem := s.mem } = s := rfl

/-- R54, byte by byte. -/
theorem State.read_push16 (s : State) (v x : Word) : (s.push16 v).read x =
    if x = s.sp - 1 then v.hi else if x = s.sp - 2 then v.lo else s.read x := by
  have hne : s.sp - 1 ≠ s.sp - 2 := by bv_omega
  rw [State.push16, State.setSp_read, State.read_write, State.read_write]
  by_cases hhi : x = s.sp - 1
  · rw [hhi, if_neg hne, if_pos rfl, if_pos rfl]
  · rw [if_neg hhi, if_neg hhi]

theorem State.push16_frame (s : State) (v : Word) : { s.push16 v with mem := s.mem, sp := s.sp } = s := rfl

/-- R55: the two bytes a push stores are those the next pop reads, in the same order. -/
@[simp] theorem State.top16_push16 (s : State) (v : Word) : (s.push16 v).top16 = v := by
  have hhi : s.sp - 2 + 1 = s.sp - 1 := by bv_omega
  have hne : s.sp - 2 ≠ s.sp - 1 := by bv_omega
  rw [State.top16, State.read16, State.push16_sp, hhi, s.read_push16, s.read_push16, if_pos rfl, if_neg hne,
    if_pos rfl, Word.ofBytes_hi_lo]

end Sys2Proof.Machine

namespace Sys2Proof

open Machine

/-- Settles O15: `State.read_write` is the law, and memory is created empty. -/
theorem readReturnsTheByteLastWritten : Obligations.ReadReturnsTheByteLastWritten :=
  ⟨State.read_write, State.write_frame, State.created_read config⟩

/-- Settles O16 from `State.read_write16`: `a` and `a + 1` differ for every `a`, 0xFFFF included. -/
theorem twoByteAccessesAreLittleEndianAndWrap : Obligations.TwoByteAccessesAreLittleEndianAndWrap := by
  intro s a v
  have hne : a ≠ a + 1 := by bv_omega
  refine ⟨rfl, rfl, ?_, ?_, fun x hlo hhi => ?_, s.write16_frame a v⟩
  · rw [s.read_write16, if_neg hne, if_pos rfl, v.lo_eq_ofNat]
  · rw [s.read_write16, if_pos rfl, v.hi_eq_ofNat]
  · rw [s.read_write16, if_neg hhi, if_neg hlo]

/-- Settles O17 from `State.read_push16`; at SP = 0 the addresses below SP are 0xFFFF and 0xFFFE. -/
theorem pushStoresBelowTheStackPointer : Obligations.PushStoresBelowTheStackPointer := by
  intro s v
  refine ⟨rfl, s.read_push16 v, s.push16_frame v, fun hsp => ⟨?_, ?_, ?_⟩⟩
  · simp [s.read_push16, hsp]
  · simp [s.read_push16, hsp]
  · simp [hsp]

/-- Settles O18: the pop is defined as R55 says, and `State.top16_push16` gives back the pushed word. -/
theorem popReturnsWhatWasPushed : Obligations.PopReturnsWhatWasPushed := by
  intro s v
  refine ⟨rfl, rfl, s.top16_push16 v, ?_⟩
  rw [State.dropTop16_sp, State.push16_sp, BitVec.sub_add_cancel]

end Sys2Proof
end

section
/-! PROOFS. The host's transactions with memory: which byte each address holds after `load`, and which bytes `dump` and a range read give (R66 to R68 of 20_memory.md). -/

namespace Sys2Proof.Machine

/-- R66, byte by byte: an address is a `Word`, so the bytes dropped past 0xFFFF meet no address. -/
theorem State.read_load (s : State) (bytes : List Byte) (base : Nat) (a : Word) :
    (s.load bytes base).read a =
      if base ≤ a.toNat ∧ a.toNat < base + bytes.length then bytes.getD (a.toNat - base) 0#8
      else s.read a := by
  have hlt := a.isLt
  induction bytes generalizing s base with
  | nil => rw [State.load, if_neg (by simp)]
  | cons v rest ih =>
    rw [State.load]
    split
    · next hbase =>
      have haddr : a = BitVec.ofNat 16 base ↔ a.toNat = base := by bv_omega
      rw [ih, s.read_write, List.length_cons]
      rcases Nat.lt_trichotomy a.toNat base with hbelow | hat | habove
      · rw [if_neg (by omega), if_neg (by rw [haddr]; omega), if_neg (by omega)]
      · rw [if_neg (by omega), if_pos (haddr.mpr hat), if_pos (by omega), hat, Nat.sub_self, List.getD_cons_zero]
      · have hoff : a.toNat - base = a.toNat - (base + 1) + 1 := by omega
        have hin : base + 1 ≤ a.toNat ∧ a.toNat < base + 1 + rest.length ↔
            base ≤ a.toNat ∧ a.toNat < base + (rest.length + 1) := by omega
        simp only [hin, hoff, List.getD_cons_succ, if_neg (haddr.not.mpr (Nat.ne_of_gt habove))]
    · rw [if_neg (by omega)]

theorem State.load_frame (s : State) (bytes : List Byte) (base : Nat) :
    { s.load bytes base with mem := s.mem } = s := by
  induction bytes generalizing s base with
  | nil => rfl
  | cons v rest ih =>
    rw [State.load]
    split
    · exact congrArg (fun t : State => { t with mem := s.mem }) (ih (s.write (BitVec.ofNat 16 base) v) (base + 1))
    · rfl

@[simp] theorem State.readRange_length (s : State) (base len : Nat) : (s.readRange base len).length = len := by
  simp [State.readRange]

theorem State.readRange_getElem? (s : State) {base len i : Nat} (hi : i < len) (hin : base + i < 65536) :
    (s.readRange base len)[i]? = some (s.read (BitVec.ofNat 16 (base + i))) := by
  simp [State.readRange, State.read, hi, Nat.mod_eq_of_lt hin]

/-- R67: the dump is the range read of all 65536 addresses. -/
theorem State.dump_getElem? (s : State) (a : Word) : s.dump[a.toNat]? = some (s.read a) := by
  have hget := s.readRange_getElem? (base := 0) (i := a.toNat) a.isLt (by simpa using a.isLt)
  rwa [Nat.zero_add, BitVec.ofNat_toNat, BitVec.setWidth_eq] at hget

end Sys2Proof.Machine

namespace Sys2Proof

open Machine

/-- Settles O19: `State.read_load` places the bytes, `State.load_frame` is the frame; the count is defined so. -/
theorem loadStopsAtTheEndOfMemory : Obligations.LoadStopsAtTheEndOfMemory :=
  fun s bytes base => ⟨s.read_load bytes base, s.load_frame bytes base, rfl⟩

/-- Settles O20: the dump and the video extraction are both range reads. -/
theorem dumpReturnsEveryByte : Obligations.DumpReturnsEveryByte :=
  ⟨fun s => ⟨s.readRange_length 0 65536, s.dump_getElem?⟩,
    fun s base len => ⟨s.readRange_length base len, fun _ => s.readRange_getElem?⟩, fun _ _ => rfl⟩

end Sys2Proof
end

section
/-! PROOFS. The length of a row from its opcode byte alone (R71, R81 of 30_encoding.md). -/

namespace Sys2Proof

open Laws.EncodedLength in
/-- Every row is as long as its opcode demands: the rows with a 16-bit operand are F3, those with an
8-bit operand F2, and all others F1 (R71). `List.headD_cons` takes the opcode from the head of the
encoding, so that the operand is gone before `decide`. -/
theorem Instr.length_eq_opLength (i : Instr) : i.length = opLength i.opcode := by
  cases i with
  | lxiB | lxiD | lxiH | lxiSp | shld | lhld | sta | lda | jmp | call
  | jnz | jz | jnc | jc | jpo | jpe | jp | jm | cnz | cz | cnc | cc | cpo | cpe | cp | cm =>
    exact of_opcode (n := 3) rfl List.headD_cons (by decide)
  | mviB | mviC | mviD | mviE | mviH | mviL | mviM | mviA
  | adi | aci | sui | sbi | ani | xri | ori | cpi | inPort | outPort =>
    exact of_opcode (n := 2) rfl List.headD_cons (by decide)
  | _ => exact of_opcode (n := 1) rfl List.headD_cons (by decide)

theorem length_decodeOp (op b2 b3 : Byte) : (decodeOp op b2 b3).length = opLength op := by
  rw [Instr.length_eq_opLength, opcode_decodeOp]

/-- The three formats of R71. -/
theorem opLength_cases (op : Byte) : opLength op = 1 ∨ opLength op = 2 ∨ opLength op = 3 := by
  simp only [opLength]
  split
  · split_ifs <;> simp
  · simp
  · simp
  · split_ifs <;> simp

/-- Settles O3: `opcode_decodeOp` and `length_decodeOp` hold for every second and third byte, so both
triples give the same opcode and the same length. -/
theorem opcodeByteAloneFixesLengthAndOperation : Obligations.OpcodeByteAloneFixesLengthAndOperation := by
  intro op b2 b3 c2 c3
  refine ⟨opcode_decodeOp op b2 b3, length_decodeOp op b2 b3, ?_, ?_, opLength_cases op⟩
  · rw [opcode_decodeOp, opcode_decodeOp]
  · rw [length_decodeOp, length_decodeOp]

end Sys2Proof
end

section
/-! PROOFS. Data transfer: loads, stores and exchanges of registers, pairs and memory (R100 to R112 of 40_data_transfer.md). -/

namespace Sys2Proof

theorem Word.lo_eq_ofNat_mod (w : Word) : w.lo = BitVec.ofNat 8 (w.toNat % 256) := by
  rw [← Word.toNat_lo, BitVec.ofNat_toNat, BitVec.setWidth_eq]

end Sys2Proof

namespace Sys2Proof.Machine

open Claims

theorem State.setPair_ofBytes (s : State) (p : RegPair) (hi lo : Byte) :
    s.setPair p (Word.ofBytes hi lo) = (s.setReg (pairHi p) hi).setReg (pairLo p) lo := by
  rw [State.setPair, Word.hi_ofBytes, Word.lo_ofBytes]

/-- The model's bit-level write of a pair or SP is the arithmetic one of `Claims`. -/
theorem State.setRp_eq_putRp (s : State) (p : Rp) (w : Word) : s.setRp p w = putRp s p w.toNat := by
  cases p with
  | bc | de | hl =>
    rw [putRp, ← Word.hi_eq_ofNat, ← Word.lo_eq_ofNat_mod]
    rfl
  | sp =>
    rw [putRp, BitVec.ofNat_toNat, BitVec.setWidth_eq]
    rfl

/-- What a store instruction of length `n` has to show: that it completes in one write after PC has
moved. The bytes are then R50's, and the write touches memory only. -/
theorem storesOne_of_exec_eq {i : Instr} {s : State} {n : Nat} {addr : Word} {v : Byte}
    (h : exec i s = .next ((s.advance n).write addr v)) : StoresOne i s (BitVec.ofNat 16 n) addr v :=
  ⟨_, h, rfl, (s.advance n).read_write addr v⟩

/-- R111, byte by byte: at 0xFFFF the second address wraps to 0, in the statement as in `State.write16`. -/
theorem read_doShld (a16 : Word) (s : State) (x : Word) : (doShld a16 s).read x =
    if x = a16 + 1 then s.regs.h else if x = a16 then s.regs.l else s.read x := by
  rw [doShld, State.read_write16, State.hl, State.pair, Word.hi_ofBytes, Word.lo_ofBytes]
  rfl

theorem doLhld_eq (a16 : Word) (s : State) : doLhld a16 s =
    { s with regs := { s.regs with l := s.read a16, h := s.read (a16 + 1) } } := by
  rw [doLhld, State.read16, State.setPair_ofBytes]
  rfl

theorem doXchg_eq (s : State) : doXchg s =
    { s with regs := { s.regs with h := s.regs.d, l := s.regs.e, d := s.regs.h, e := s.regs.l } } := by
  rw [doXchg, State.pair, State.pair, State.setPair_ofBytes, State.setPair_ofBytes]
  rfl

end Sys2Proof.Machine

namespace Sys2Proof

open Machine

/-- Settles O24: every one-byte store is one `State.write` after PC has moved (`storesOne_of_exec_eq`),
and SHLD is one `State.write16` of HL (`read_doShld`). The address is read from registers that moving
PC leaves as they were. -/
theorem memoryStores : Obligations.MemoryStores :=
  ⟨fun src s => storesOne_of_exec_eq (n := 1) (exec_movToM src s),
    fun d8 s => storesOne_of_exec_eq (n := 2) (exec_mvi .m d8 s),
    fun a16 s => storesOne_of_exec_eq (n := 3) (exec_sta a16 s),
    fun p s => storesOne_of_exec_eq (n := 1) ((exec_stax p s).trans (by cases p <;> rfl)),
    fun a16 s => ⟨_, exec_shld a16 s, rfl, read_doShld a16 (s.advance 3)⟩⟩

/-- Settles O22: MOV and MVI write one register by definition, LXI is `State.setRp_eq_putRp` and XCHG
is `doXchg_eq`, each after PC has moved. -/
theorem registerMovesAndImmediateLoads : Obligations.RegisterMovesAndImmediateLoads :=
  ⟨exec_mov, fun dst => exec_mvi (.reg dst),
    fun p d16 s => (exec_lxi p d16 s).trans (congrArg _ ((s.advance 3).setRp_eq_putRp p d16)),
    fun s => (exec_xchg s).trans (congrArg _ (doXchg_eq (s.advance 1)))⟩

/-- Settles O23: MOV, LDA and LDAX write the byte read into one register by definition, from an address
that moving PC leaves as it was; LHLD is `doLhld_eq`. -/
theorem memoryLoads : Obligations.MemoryLoads :=
  ⟨exec_movFromM, exec_lda, exec_ldax .bc, exec_ldax .de,
    fun a16 s => (exec_lhld a16 s).trans (congrArg _ (doLhld_eq a16 (s.advance 3)))⟩

end Sys2Proof
end

section
/-! PROOFS. Arithmetic: the accumulator operations, INR and DCR of a register or a byte of memory, and the pair operations INX, DCX and DAD (R120 to R138 of 41_arithmetic.md, with the flags of R29, R31 and R33 of 10_state.md). -/

namespace Sys2Proof.Machine

open Claims

/-! ### The flags of a result byte -/

theorem parityEven_eq_testBit (v : Byte) :
    parityEven v = decide (((List.range 8).filter (fun i => v.toNat.testBit i)).length % 2 = 0) := by
  simp only [parityEven, List.countP_eq_length_filter, BitVec.testBit_toNat]
  rfl

/-- R29: the bit formulas of Z, S and P are the arithmetic ones of `Claims`. -/
theorem Flags.zsp_eq_flagsOf (f : Flags) (t : Int) :
    f.zsp t = flagsOf (BitVec.ofInt 8 t).toNat f.cy f.ac := by
  have hz (v : Byte) : (v == 0) = decide (v.toNat = 0) := by
    rw [beq_eq_decide, decide_eq_decide, ← BitVec.toNat_inj]
    rfl
  have hs (v : Byte) : v.getLsbD 7 = decide (128 ≤ v.toNat) := v.msb_eq_decide
  rw [Flags.zsp, hz, hs, parityEven_eq_testBit]
  rfl

theorem Flags.zsp_toNat (f : Flags) (v : Byte) : f.zsp v.toNat = flagsOf v.toNat f.cy f.ac := by
  rw [Flags.zsp_eq_flagsOf, BitVec.ofInt_natCast, BitVec.ofNat_toNat, BitVec.setWidth_eq]

/-! ### The accumulator operations (R120 to R131) -/

theorem operand_eq_readSrc (s : State) (src : Src) : operand s src = (s.readSrc src).toNat := by
  cases src <;> rfl

theorem exec_alu_eq_aluApply (op : AluOp) (src : Src) (s : State) :
    exec (.mkAlu op src) s = complete 1 (aluApply op (s.readSrc src)) s :=
  exec_alu op src s

theorem bitInt_cy (s : State) : bitInt s.flags.cy = carryIn s := by
  rw [bitInt, carryIn, apply_ite Nat.cast]
  rfl

/-- R31 for an operation that writes A: `n` is the raw result modulo 256, and `out` says that the raw
result lies outside 0 to 255. -/
theorem complete_aluApply {op : AluOp} (hA : aluWritesA op = true) (len : Nat) (v : Byte) (s : State)
    {n : Nat} {out : Prop} [Decidable out]
    (hn : (BitVec.ofInt 8 (aluRaw op s.regs.a v s.flags.cy)).toNat = n)
    (hout : aluRaw op s.regs.a v s.flags.cy < 0 ∨ 255 < aluRaw op s.regs.a v s.flags.cy ↔ out) :
    complete len (aluApply op v) s = .next { s with
      pc := s.pc + BitVec.ofNat 16 len
      regs := { s.regs with a := BitVec.ofNat 8 n }
      flags := flagsOf n (decide out) (decide out) } := by
  subst hn
  rw [complete, aluApply, if_pos hA, Flags.arith, Flags.zsp_eq_flagsOf, BitVec.ofNat_toNat,
    BitVec.setWidth_eq, ← decide_eq_decide.mpr hout]
  rfl

theorem complete_aluApply_of_raw_eq_natCast {op : AluOp} (hA : aluWritesA op = true) (len : Nat) {v : Byte}
    {s : State} {t : Nat} (hraw : aluRaw op s.regs.a v s.flags.cy = t) :
    complete len (aluApply op v) s = accResult s (BitVec.ofNat 16 len) t := by
  apply complete_aluApply hA
  · rw [hraw, BitVec.ofInt_natCast, BitVec.toNat_ofNat]
  · omega

theorem complete_aluApply_of_raw_eq_sub {op : AluOp} (hA : aluWritesA op = true) (len : Nat) {v : Byte}
    {s : State} {x y : Nat} (hraw : aluRaw op s.regs.a v s.flags.cy = x - y) (hx : x < 256) (hy : y ≤ 256) :
    complete len (aluApply op v) s = accResultSub s (BitVec.ofNat 16 len) x y := by
  apply complete_aluApply hA
  · rw [hraw, BitVec.toNat_ofInt]
    omega
  · omega

theorem complete_aluApply_add (len : Nat) (v : Byte) (s : State) : complete len (aluApply .add v) s =
    accResult s (BitVec.ofNat 16 len) (s.regs.a.toNat + v.toNat) :=
  complete_aluApply_of_raw_eq_natCast rfl len (by simp [aluRaw])

theorem complete_aluApply_adc (len : Nat) (v : Byte) (s : State) : complete len (aluApply .adc v) s =
    accResult s (BitVec.ofNat 16 len) (s.regs.a.toNat + v.toNat + carryIn s) :=
  complete_aluApply_of_raw_eq_natCast rfl len (by simp [aluRaw, bitInt_cy])

theorem complete_aluApply_sub (len : Nat) (v : Byte) (s : State) : complete len (aluApply .sub v) s =
    accResultSub s (BitVec.ofNat 16 len) s.regs.a.toNat v.toNat :=
  complete_aluApply_of_raw_eq_sub rfl len rfl s.regs.a.isLt v.isLt.le

theorem carryIn_le_one (s : State) : carryIn s ≤ 1 := by
  rw [carryIn]
  split <;> omega

theorem complete_aluApply_sbb (len : Nat) (v : Byte) (s : State) : complete len (aluApply .sbb v) s =
    accResultSub s (BitVec.ofNat 16 len) s.regs.a.toNat (v.toNat + carryIn s) := by
  have hv := v.isLt
  have hc := carryIn_le_one s
  apply complete_aluApply_of_raw_eq_sub rfl len _ s.regs.a.isLt
  · omega
  · rw [aluRaw, bitInt_cy]
    omega

/-! ### INR and DCR (R132 to R135) -/

theorem exec_inr_eq_next (dst : Src) (s : State) : exec (.mkInr dst) s =
    .next (((s.advance 1).writeSrc dst (BitVec.ofNat 8 ((operand s dst + 1) % 256))).setFlags
      (flagsOf ((operand s dst + 1) % 256) s.flags.cy s.flags.ac)) := by
  have hv : (s.readSrc dst + 1).toNat = (operand s dst + 1) % 256 := by
    rw [operand_eq_readSrc, BitVec.toNat_add]
    rfl
  rw [exec_inr, ← hv, ← Flags.zsp_toNat, BitVec.ofNat_toNat, BitVec.setWidth_eq]
  rfl

theorem exec_dcr_eq_next (dst : Src) (s : State) : exec (.mkDcr dst) s =
    .next (((s.advance 1).writeSrc dst (BitVec.ofNat 8 ((operand s dst + 255) % 256))).setFlags
      (flagsOf ((operand s dst + 255) % 256) s.flags.cy s.flags.ac)) := by
  have hv : (s.readSrc dst - 1).toNat = (operand s dst + 255) % 256 := by
    rw [operand_eq_readSrc, BitVec.toNat_sub, Nat.add_comm]
    rfl
  rw [exec_dcr, ← hv, ← Flags.zsp_toNat, BitVec.ofNat_toNat, BitVec.setWidth_eq]
  rfl

/-- What INR M and DCR M have to show: that they complete in one write at HL after PC has moved, then
the flags. -/
theorem storesAtHl_of_exec_eq {i : Instr} {s : State} {v : Byte} {f : Flags}
    (h : exec i s = .next (((s.advance 1).write s.hl v).setFlags f)) :
    ∃ t, exec i s = .next t ∧ { t with mem := s.mem } = { s with pc := s.pc + 1, flags := f } ∧
      ∀ x : Word, t.read x = if x = s.hl then v else s.read x :=
  ⟨_, h, rfl, (s.advance 1).read_write s.hl v⟩

/-! ### INX, DCX and DAD (R136 to R138) -/

theorem rpValue_eq_toNat_rp (s : State) (p : Rp) : rpValue s p = (s.rp p).toNat := by
  cases p with
  | bc | de | hl => exact (Word.toNat_ofBytes _ _).symm
  | sp => rfl

theorem doInx_eq (p : Rp) (s : State) : doInx p s = putRp s p ((rpValue s p + 1) % 65536) := by
  rw [doInx, State.setRp_eq_putRp, BitVec.toNat_add, rpValue_eq_toNat_rp]
  rfl

theorem doDcx_eq (p : Rp) (s : State) : doDcx p s = putRp s p ((rpValue s p + 65535) % 65536) := by
  rw [doDcx, State.setRp_eq_putRp, BitVec.toNat_sub, Nat.add_comm, rpValue_eq_toNat_rp]
  rfl

theorem doDad_eq (c : Config) (p : Rp) (s : State) : doDad c p s =
    (putRp s .hl ((rpValue s .hl + rpValue s p) % 65536)).setFlags
      (s.flags.carry16 c (rpValue s .hl + rpValue s p)) := by
  have hsum (t : Nat) : s.setPair .hl (BitVec.ofNat 16 t) = putRp s .hl (t % 65536) := by
    rw [← BitVec.toNat_ofNat t 16, ← State.setRp_eq_putRp]
    rfl
  rw [rpValue_eq_toNat_rp, rpValue_eq_toNat_rp, ← hsum]
  rfl

theorem execWith_dad_eq_dadResult (c : Config) (p : Rp) (s : State) :
    execWith c (.mkDad p) s = dadResult c p s := by
  rw [execWith_dad, complete, doDad_eq]
  cases p <;> rfl

end Sys2Proof.Machine

namespace Sys2Proof

open Machine

/-- Settles O25: the register, memory and immediate forms are one operation on the operand's value. -/
theorem addAndSubtractResults : Obligations.AddAndSubtractResults := by
  refine ⟨fun src s => ?_, fun d8 s =>
    ⟨(exec_aluImm .add d8 s).trans (complete_aluApply_add 2 d8 s),
      (exec_aluImm .adc d8 s).trans (complete_aluApply_adc 2 d8 s),
      (exec_aluImm .sub d8 s).trans (complete_aluApply_sub 2 d8 s),
      (exec_aluImm .sbb d8 s).trans (complete_aluApply_sbb 2 d8 s)⟩⟩
  simp only [exec_alu_eq_aluApply, operand_eq_readSrc]
  exact ⟨complete_aluApply_add 1 (s.readSrc src) s, complete_aluApply_adc 1 (s.readSrc src) s,
    complete_aluApply_sub 1 (s.readSrc src) s, complete_aluApply_sbb 1 (s.readSrc src) s⟩

/-- Settles O26: the general INR and DCR with a register as the operand. -/
theorem incrementAndDecrementOfARegister : Obligations.IncrementAndDecrementOfARegister :=
  fun r s => ⟨exec_inr_eq_next (.reg r) s, exec_dcr_eq_next (.reg r) s⟩

/-- Settles O27: with M as the operand each is one write at HL, whose bytes are R50's. -/
theorem incrementAndDecrementOfMemory : Obligations.IncrementAndDecrementOfMemory :=
  fun s => ⟨storesAtHl_of_exec_eq (exec_inr_eq_next .m s), storesAtHl_of_exec_eq (exec_dcr_eq_next .m s)⟩

/-- Settles O28: the pair is written as `State.setRp_eq_putRp` says, and DAD under the defaults is
`execWith config` (`execWith_config`). -/
theorem pairIncrementDecrementAndAdd : Obligations.PairIncrementDecrementAndAdd := by
  intro p s
  refine ⟨?_, ?_, ?_, fun c => execWith_dad_eq_dadResult c p s⟩
  · rw [exec_inx, complete, doInx_eq]
    cases p <;> rfl
  · rw [exec_dcx, complete, doDcx_eq]
    cases p <;> rfl
  · rw [← execWith_config]
    exact execWith_dad_eq_dadResult config p s

end Sys2Proof
end

section
/-! PROOFS. The logical operations AND, XOR and OR on the accumulator (R150 to R158 of 42_logical.md, with the flags of R31 and R32 of 10_state.md). -/

namespace Sys2Proof.Machine

open Claims

/-! ### The accumulator operations (R150 to R158): the raw result is the bitwise one of the two numbers -/

theorem complete_aluApply_ana (len : Nat) (v : Byte) (s : State) : complete len (aluApply .ana v) s =
    accResult s (BitVec.ofNat 16 len) (s.regs.a.toNat &&& v.toNat) :=
  complete_aluApply_of_raw_eq_natCast rfl len (congrArg Nat.cast (BitVec.toNat_and _ _))

theorem complete_aluApply_xra (len : Nat) (v : Byte) (s : State) : complete len (aluApply .xra v) s =
    accResult s (BitVec.ofNat 16 len) (s.regs.a.toNat ^^^ v.toNat) :=
  complete_aluApply_of_raw_eq_natCast rfl len (congrArg Nat.cast (BitVec.toNat_xor _ _))

theorem complete_aluApply_ora (len : Nat) (v : Byte) (s : State) : complete len (aluApply .ora v) s =
    accResult s (BitVec.ofNat 16 len) (s.regs.a.toNat ||| v.toNat) :=
  complete_aluApply_of_raw_eq_natCast rfl len (congrArg Nat.cast (BitVec.toNat_or _ _))

end Sys2Proof.Machine

namespace Sys2Proof

open Machine

/-- Settles O31: the register, memory and immediate forms are one operation on the operand's value, and
its result is at most 255 because the AND, XOR or OR of two bytes is a byte again. -/
theorem logicalResultsClearCarry : Obligations.LogicalResultsClearCarry := by
  refine ⟨fun src s => ?_, fun d8 s =>
    ⟨(exec_aluImm .ana d8 s).trans (complete_aluApply_ana 2 d8 s),
      (exec_aluImm .xra d8 s).trans (complete_aluApply_xra 2 d8 s),
      (exec_aluImm .ora d8 s).trans (complete_aluApply_ora 2 d8 s)⟩, fun a v => ?_⟩
  · simp only [exec_alu_eq_aluApply, operand_eq_readSrc]
    exact ⟨complete_aluApply_ana 1 (s.readSrc src) s, complete_aluApply_xra 1 (s.readSrc src) s,
      complete_aluApply_ora 1 (s.readSrc src) s⟩
  · rw [← BitVec.toNat_and, ← BitVec.toNat_xor, ← BitVec.toNat_or]
    exact ⟨Nat.le_of_lt_succ (a &&& v).isLt, Nat.le_of_lt_succ (a ^^^ v).isLt,
      Nat.le_of_lt_succ (a ||| v).isLt⟩

end Sys2Proof
end

section
/-! PROOFS. The unimplemented opcodes: which rows have no instruction, the fault at decode, and that a step does nothing but complete or fault (R79, R80 of 30_encoding.md, R250, R251, R253 of 60_exceptions.md). -/

namespace Sys2Proof

open Machine in
/-- R79 and R80 over the opcode map: the rows without an instruction are those at the twelve bytes of the default
`UNIMPL_SET`, so no instruction stands at one of them. -/
theorem Instr.wellFormed_eq_not_contains (i : Instr) :
    i.wellFormed = !config.unimplSet.contains i.opcode := by
  cases i <;> rfl

end Sys2Proof

namespace Sys2Proof.Machine

theorem State.faults_of_contains {c : Config} {s : State} (h : c.unimplSet.contains (s.read s.pc) = true) :
    s.faults c = true := by
  rw [State.faults, State.fetch_opcode, h, Bool.true_or]

/-- Under the defaults the two ways to fault are one: the byte at PC is in `UNIMPL_SET`. -/
theorem State.faults_config (s : State) : s.faults config = config.unimplSet.contains (s.read s.pc) := by
  rw [State.faults, Instr.wellFormed_eq_not_contains, s.opcode_fetched, State.fetch_opcode, Bool.not_not,
    Bool.or_self]

/-- All that a step can answer: the fault of R250, where the opcode faults, or a next state. -/
theorem fetchExecute_fault_or_next (c : Config) (s : State) :
    (s.faults c = true ∧ fetchExecute c s = .fault (.unimplementedOpcode s.pc (s.read s.pc))) ∨
    (s.faults c = false ∧ ∃ t, fetchExecute c s = .next t) := by
  cases h : s.faults c with
  | true => exact .inl ⟨rfl, fetchExecute_of_faults h⟩
  | false => exact .inr ⟨rfl, fetchExecute_of_not_faults h⟩

end Sys2Proof.Machine

namespace Sys2Proof

open Machine

/-- Settles O6: an opcode in `UNIMPL_SET` faults, under the defaults as under any parameters. -/
theorem unimplementedOpcodeStopsTheStep : Obligations.UnimplementedOpcodeStopsTheStep :=
  ⟨fun _ h => fetchExecute_of_faults (State.faults_of_contains h),
    fun _ _ h => fetchExecute_of_faults (State.faults_of_contains h)⟩

/-- Settles O7: the rows are those of `Instr.wellFormed_eq_not_contains`, and a step that faults has taken the
only faulting branch there is (`fetchExecute_fault_or_next`). -/
theorem unimplementedRowsRaiseTheFault : Obligations.UnimplementedRowsRaiseTheFault := by
  refine ⟨fun i op s h => exec_unimplemented h s, Instr.wellFormed_eq_not_contains, fun s r h => ?_⟩
  rcases fetchExecute_fault_or_next config s with ⟨hf, e⟩ | ⟨_, t, e⟩
  · cases e.symm.trans h
    exact ⟨rfl, s.faults_config.symm.trans hf⟩
  · cases e.symm.trans h

/-- Settles O8: every instruction completes (`exec_next_of_wellFormed`), and a step completes or raises the fault
of R250 (`fetchExecute_fault_or_next`). -/
theorem everySupportedOpcodeIsTotal : Obligations.EverySupportedOpcodeIsTotal := by
  refine ⟨fun i s h => exec_next_of_wellFormed h s, fun s => ?_⟩
  rcases fetchExecute_fault_or_next config s with ⟨_, e⟩ | ⟨_, hnext⟩
  · exact .inr e
  · exact .inl hnext

end Sys2Proof
end

section
/-! PROOFS. The ports: what each port number reads and writes, and the shifter's window of the two latches (R271 to R278 of 60_exceptions.md). -/

namespace Sys2Proof.Machine

theorem State.portIn_inputs {c : Config} {p : Byte} (h : p = c.portInInputs) (s : State) :
    s.portIn c p = s.inputByte c := if_pos h

theorem State.portIn_shift {c : Config} {p : Byte} (hi : p ≠ c.portInInputs) (h : p = c.portInShift) (s : State) :
    s.portIn c p = s.shiftOut := by
  rw [State.portIn, if_neg hi, if_pos h]

theorem State.portIn_other {c : Config} {p : Byte} (hi : p ≠ c.portInInputs) (hs : p ≠ c.portInShift) (s : State) :
    s.portIn c p = 0#8 := by
  rw [State.portIn, if_neg hi, if_neg hs]
  rfl

theorem State.portOut_offset {c : Config} {p : Byte} (h : p = c.portOutOffset) (s : State) (v : Byte) :
    s.portOut c p v = s.setShOff (v.extractLsb' 0 3) := if_pos h

theorem State.portOut_data {c : Config} {p : Byte} (ho : p ≠ c.portOutOffset) (h : p = c.portOutData) (s : State)
    (v : Byte) : s.portOut c p v = s.setLatches v s.shHi := by
  rw [State.portOut, if_neg ho, if_pos h]

theorem State.portOut_other {c : Config} {p : Byte} (ho : p ≠ c.portOutOffset) (hd : p ≠ c.portOutData) (s : State)
    (v : Byte) : s.portOut c p v = s := by
  rw [State.portOut, if_neg ho, if_neg hd]

/-- R275: the offset latch takes the low 3 bits of the byte. -/
theorem extractLsb'_three_eq_ofNat (v : Byte) : v.extractLsb' 0 3 = BitVec.ofNat 3 (v.toNat % 8) := by
  apply BitVec.eq_of_toNat_eq
  simp

theorem State.toNat_shiftOut (s : State) : s.shiftOut.toNat =
    ((s.shHi.toNat * 256 + s.shLo.toNat) / 2 ^ (8 - s.shOff.toNat)) % 256 := by
  rw [State.shiftOut, BitVec.toNat_ofNat, Nat.shiftRight_eq_div_pow]

/-- R273 bit by bit: the window starts `8 - SH_OFF` bits above the lowest bit of SH_HI:SH_LO. -/
theorem State.getLsbD_shiftOut (s : State) {i : Nat} (hi : i < 8) : s.shiftOut.getLsbD i =
    (Word.ofBytes s.shHi s.shLo).getLsbD (8 - s.shOff.toNat + i) := by
  rw [State.shiftOut, BitVec.getLsbD_ofNat, Nat.testBit_shiftRight, ← BitVec.testBit_toNat, Word.toNat_ofBytes,
    Nat.mul_comm]
  simp [hi]

/-- At offset 0 the window is the high latch. -/
theorem State.shiftOut_of_shOff_zero {s : State} (h : s.shOff = 0#3) : s.shiftOut = s.shHi := by
  apply BitVec.eq_of_toNat_eq
  have hhi := s.shHi.isLt
  have hlo := s.shLo.isLt
  have hpow : 2 ^ (8 - (0#3).toNat) = 256 := rfl
  rw [s.toNat_shiftOut, h, hpow]
  omega

/-- At offset 7 the window is the lowest bit of the high latch above the upper seven bits of the low one. -/
theorem State.toNat_shiftOut_of_shOff_seven {s : State} (h : s.shOff = 7#3) :
    s.shiftOut.toNat = 128 * (s.shHi.toNat % 2) + s.shLo.toNat / 2 := by
  have hlo := s.shLo.isLt
  have hpow : 2 ^ (8 - (7#3).toNat) = 2 := rfl
  rw [s.toNat_shiftOut, h, hpow]
  omega

/-- The source's own test of the shifter. -/
theorem State.shiftOut_AA_FF_offset_four {s : State} (hhi : s.shHi = 0xAA#8) (hlo : s.shLo = 0xFF#8)
    (ho : s.shOff = 4#3) : s.shiftOut = 0xAF#8 := by
  rw [State.shiftOut, hhi, hlo, ho]
  decide

end Sys2Proof.Machine

namespace Sys2Proof

open Machine

/-- Settles O47: one case for each port number `PortIn` knows. -/
theorem portReadsByNumber : Obligations.PortReadsByNumber :=
  fun _ s _ => ⟨fun h => s.portIn_inputs h, fun hi h => s.portIn_shift hi h, fun hi hs => s.portIn_other hi hs⟩

/-- Settles O49: one case for each port number `PortOut` knows; of two data writes the second moves what the first
stored to the low latch. -/
theorem portWritesByNumber : Obligations.PortWritesByNumber := by
  refine fun c s p v w => ⟨fun h => ?_, fun ho h => ⟨s.portOut_data ho h v, ?_⟩, fun ho hd => s.portOut_other ho hd v⟩
  · rw [s.portOut_offset h, extractLsb'_three_eq_ofNat]
    rfl
  · rw [State.portOut_data ho h, State.portOut_data ho h]
    rfl

/-- Settles O46: the shifter's value is `State.toNat_shiftOut`, its bits `State.getLsbD_shiftOut`; the three port
writes of the last clause leave the latches and the offset of the source's test. -/
theorem shifterReadIsAWindowOfTheLatches : Obligations.ShifterReadIsAWindowOfTheLatches := by
  refine ⟨State.toNat_shiftOut, fun s i hi => s.getLsbD_shiftOut hi, fun s => State.shiftOut_of_shOff_zero,
    fun s => State.toNat_shiftOut_of_shOff_seven, fun s => ?_, fun s => State.shiftOut_AA_FF_offset_four, fun s => ?_⟩
  · have hoff := s.shOff.isLt
    omega
  · have hdata : config.portOutData ≠ config.portOutOffset := by decide
    rw [State.portIn_shift (by decide) rfl, State.portOut_offset rfl, State.portOut_data hdata rfl,
      State.portOut_data hdata rfl]
    exact State.shiftOut_AA_FF_offset_four rfl rfl rfl

end Sys2Proof
end

section
/-! PROOFS. Interrupt delivery (R257 of 60_exceptions.md): what a request writes when INTE is set, and that it is lost when INTE is clear. -/

namespace Sys2Proof.Machine

theorem State.requestInterrupt_of_inte {s : State} (h : s.inte = true) (c : Config) (v : Fin 8) :
    s.requestInterrupt c v = s.takeInterrupt c v := if_pos h

theorem State.requestInterrupt_of_not_inte {s : State} (h : s.inte = false) (c : Config) (v : Fin 8) :
    s.requestInterrupt c v = s := by
  rw [State.requestInterrupt, h]
  rfl

/-- Outside memory a delivery writes PC, SP and INTE. -/
theorem State.takeInterrupt_frame (c : Config) (v : Fin 8) (s : State) :
    { s.takeInterrupt c v with mem := s.mem } = { s with pc := c.vecAddr v, sp := s.sp - 2, inte := false } := rfl

/-- In memory a delivery writes the two bytes of the pushed PC. -/
theorem State.read_takeInterrupt (c : Config) (v : Fin 8) (s : State) (x : Word) : (s.takeInterrupt c v).read x =
    if x = s.sp - 1 then s.pc.hi else if x = s.sp - 2 then s.pc.lo else s.read x := by
  rw [State.takeInterrupt, State.setInte_read, State.setPc_read, s.read_push16]

end Sys2Proof.Machine

namespace Sys2Proof

open Machine

/-- Settles O50: a delivery is `State.takeInterrupt`, whose frame and bytes are stated above. -/
theorem interruptDelivery : Obligations.InterruptDelivery := by
  refine fun c v s => ⟨fun h => ?_, fun h => State.requestInterrupt_of_not_inte h c v⟩
  rw [State.requestInterrupt_of_inte h]
  exact ⟨s.takeInterrupt_frame c v, s.read_takeInterrupt c v⟩

end Sys2Proof
end

section
/-! PROOFS. A run of host transactions: how it goes on after each move and where it ends (R7, R8 of 00_scope.md, R252 of 60_exceptions.md, R304 of 70_reset_and_hazards.md). -/

namespace Sys2Proof.Machine

theorem hostRun_cons_of_running {c : Config} {m : HostMove} {s t : State} (h : transact c m s = .running t)
    (rest : List HostMove) : hostRun c (m :: rest) s = hostRun c rest t := by
  rw [hostRun, h]

theorem hostRun_cons_of_halted {c : Config} {m : HostMove} {s t : State} (h : transact c m s = .halted t)
    (rest : List HostMove) : hostRun c (m :: rest) s = .halted t := by
  rw [hostRun, h]

theorem hostRun_cons_of_failed {c : Config} {m : HostMove} {s t : State} {r : Fault}
    (h : transact c m s = .failed r t) (rest : List HostMove) : hostRun c (m :: rest) s = .failed r t := by
  rw [hostRun, h]

/-- HLT writes nothing but PC (R240). -/
theorem fetchExecute_hlt {c : Config} {s : State} (hset : c.unimplSet.contains (s.read s.pc) = false)
    (h : s.fetched = .hlt) : fetchExecute c s = .next { s with pc := s.pc + 1 } := by
  rcases fetchExecute_cases c s with ⟨hin, _⟩ | ⟨_, e⟩
  · cases hset.symm.trans hin
  · rw [e, h]
    rfl

theorem hostStep_of_faults {c : Config} {s : State} (h : s.faults c = true) :
    hostStep c s = .failed (.unimplementedOpcode s.pc (s.read s.pc)) s := by
  rw [hostStep, fetchExecute_of_faults h]

/-- The host sees a step that completes as ended exactly when its row is HLT (R7, R240). -/
theorem hostStep_of_next {c : Config} {s t : State} (h : fetchExecute c s = .next t) :
    hostStep c s = if s.fetched = .hlt then .halted t else .running t := by
  rcases s.report_cases c with ⟨_, _, e⟩ | ⟨_, hlt, hr, _⟩ | ⟨_, hne, hr, _⟩
  · cases e.symm.trans h
  · simp [hostStep, h, hr, hlt]
  · simp [hostStep, h, hr, hne]

variable {c : Config} {s : State}

/-- A run meets an opcode of `UNIMPL_SET` (R252). -/
theorem hostRun_step_of_contains (h : c.unimplSet.contains (s.read s.pc) = true) (moves : List HostMove) :
    hostRun c (.step :: moves) s = .failed (.unimplementedOpcode s.pc (s.read s.pc)) s :=
  hostRun_cons_of_failed (m := .step) (hostStep_of_faults (State.faults_of_contains h)) moves

/-- A run meets HLT (R304). -/
theorem hostRun_step_hlt (hset : c.unimplSet.contains (s.read s.pc) = false) (h : s.fetched = .hlt)
    (moves : List HostMove) : hostRun c (.step :: moves) s = .halted { s with pc := s.pc + 1 } :=
  hostRun_cons_of_halted (m := .step) ((hostStep_of_next (fetchExecute_hlt hset h)).trans (if_pos h)) moves

/-- A run meets any other instruction. -/
theorem hostRun_step_of_next {t : State} (hne : s.fetched ≠ .hlt) (h : fetchExecute c s = .next t)
    (moves : List HostMove) : hostRun c (.step :: moves) s = hostRun c moves t :=
  hostRun_cons_of_running (m := .step) ((hostStep_of_next h).trans (if_neg hne)) moves

end Sys2Proof.Machine

namespace Sys2Proof

open Machine

/-- Settles O60: one lemma for each way a step can go; under the defaults HLT's byte is never in `UNIMPL_SET`. -/
theorem runEndsAtTheFirstHaltOrFault : Obligations.RunEndsAtTheFirstHaltOrFault :=
  ⟨fun moves _ => ⟨fun h => hostRun_step_of_contains h moves,
      fun h => hostRun_step_hlt (State.hlt_not_in_default_unimplSet h) h moves,
      fun hne _ h => hostRun_step_of_next hne h moves⟩,
    fun _ moves _ => ⟨fun h => hostRun_step_of_contains h moves, fun hset h => hostRun_step_hlt hset h moves,
      fun hne _ h => hostRun_step_of_next hne h moves, fun _ => hostRun_cons_of_running rfl moves,
      fun _ => hostRun_cons_of_running rfl moves, rfl⟩⟩

end Sys2Proof
end

section
/-! PROOFS. The default of every parameter, and the cost of each form of instruction (R13 of 00_scope.md, R300, R301 of 70_reset_and_hazards.md). -/

namespace Sys2Proof.Machine

/-- The opcodes whose cost depends on their condition: the conditional calls `11ccc100` and the conditional
returns `11ccc000` (R77, R301). -/
def hasAlternateCost (op : Byte) : Bool :=
  decide (0xC0 ≤ op.toNat) && (op.toNat % 8 == 4 || op.toNat % 8 == 0)

/-- Every other opcode costs its entry of the table, whether `taken` is set or not. -/
theorem config_cycles_of_fixed {op : Byte} {n : Nat} (h : hasAlternateCost op = false ∧ baseCycles op = n)
    (taken : Bool) : config.cycles op taken = n := by
  obtain ⟨hfixed, hbase⟩ := h
  have hcall : ¬ (0xC0 ≤ op.toNat ∧ op.toNat % 8 = 4) := by
    rintro ⟨hhigh, hlow⟩
    simp [hasAlternateCost, hhigh, hlow] at hfixed
  have hret : ¬ (0xC0 ≤ op.toNat ∧ op.toNat % 8 = 0) := by
    rintro ⟨hhigh, hlow⟩
    simp [hasAlternateCost, hhigh, hlow] at hfixed
  change defaultCycles op taken = n
  rw [defaultCycles, if_neg hcall, if_neg hret, ite_self, hbase]

/-! The operand bytes of a row are no part of its opcode byte, so its cost can be read off with all of them zero. -/

theorem opcode_mkMvi (x : Src) (d8 : Byte) : (Instr.mkMvi x d8).opcode = (Instr.mkMvi x 0).opcode := by
  cases x with
  | m => rfl
  | reg r => cases r <;> rfl

theorem opcode_mkLxi (p : Rp) (d16 : Word) : (Instr.mkLxi p d16).opcode = (Instr.mkLxi p 0).opcode := by
  cases p <;> rfl

theorem opcode_mkAluImm (op : AluOp) (d8 : Byte) : (Instr.mkAluImm op d8).opcode = (Instr.mkAluImm op 0).opcode := by
  cases op <;> rfl

theorem opcode_mkJcc (k : Cond) (a16 : Word) : (Instr.mkJcc k a16).opcode = (Instr.mkJcc k 0).opcode := by
  cases k <;> rfl

theorem opcode_mkCcc (k : Cond) (a16 : Word) : (Instr.mkCcc k a16).opcode = (Instr.mkCcc k 0).opcode := by
  cases k <;> rfl

theorem config_cycles_mkCcc (k : Cond) (a16 : Word) (taken : Bool) :
    config.cycles (Instr.mkCcc k a16).opcode taken = if taken then 17 else 11 := by
  rw [opcode_mkCcc]
  cases taken
  case false => cases k <;> rfl
  case true => cases k <;> rfl

theorem config_cycles_mkRcc (k : Cond) (taken : Bool) :
    config.cycles (Instr.mkRcc k).opcode taken = if taken then 11 else 5 := by
  cases taken
  case false => cases k <;> rfl
  case true => cases k <;> rfl

/-- D13 keeps the port numbers of each direction apart, D15 puts vectors 1 and 2 where the source has them. -/
theorem config_wf : config.wf := by
  refine ⟨?_, ?_, rfl, rfl⟩
  · decide
  · decide

end Sys2Proof.Machine

namespace Sys2Proof

open Machine

/-- Settles O10: outside the conditional calls and returns a form costs its entry of the table
(`config_cycles_of_fixed`), which is the same for every register, pair or operation it names. -/
theorem defaultParameters : Obligations.DefaultParameters := by
  refine ⟨rfl, rfl, rfl, rfl, rfl, rfl, rfl, rfl, rfl, rfl, rfl, fun _ => rfl, config_wf,
    -- data transfer
    fun dst src => config_cycles_of_fixed ?mov, fun r => config_cycles_of_fixed ?movFromM,
    fun r => config_cycles_of_fixed ?movToM, fun r d8 => opcode_mkMvi _ d8 ▸ config_cycles_of_fixed ?mvi,
    fun d8 => opcode_mkMvi _ d8 ▸ config_cycles_of_fixed ⟨rfl, rfl⟩,
    fun p d16 => opcode_mkLxi p d16 ▸ config_cycles_of_fixed ?lxi,
    fun _ => config_cycles_of_fixed (op := 0x3A) ⟨rfl, rfl⟩, fun _ => config_cycles_of_fixed (op := 0x32) ⟨rfl, rfl⟩,
    fun _ => config_cycles_of_fixed (op := 0x2A) ⟨rfl, rfl⟩, fun _ => config_cycles_of_fixed (op := 0x22) ⟨rfl, rfl⟩,
    fun p => config_cycles_of_fixed ?ldax, fun p => config_cycles_of_fixed ?stax,
    config_cycles_of_fixed ⟨rfl, rfl⟩,
    -- the accumulator operations
    fun op r => config_cycles_of_fixed ?alu, fun op => config_cycles_of_fixed ?aluM,
    fun op d8 => opcode_mkAluImm op d8 ▸ config_cycles_of_fixed ?aluImm,
    -- INR and DCR, the pair operations
    fun r => config_cycles_of_fixed ?inr, fun r => config_cycles_of_fixed ?dcr,
    config_cycles_of_fixed ⟨rfl, rfl⟩, config_cycles_of_fixed ⟨rfl, rfl⟩,
    fun p => config_cycles_of_fixed ?inx, fun p => config_cycles_of_fixed ?dcx,
    fun p => config_cycles_of_fixed ?dad,
    -- DAA, the rotates, CMA, CMC and STC; NOP, EI and DI
    config_cycles_of_fixed ⟨rfl, rfl⟩, config_cycles_of_fixed ⟨rfl, rfl⟩, config_cycles_of_fixed ⟨rfl, rfl⟩,
    config_cycles_of_fixed ⟨rfl, rfl⟩, config_cycles_of_fixed ⟨rfl, rfl⟩, config_cycles_of_fixed ⟨rfl, rfl⟩,
    config_cycles_of_fixed ⟨rfl, rfl⟩, config_cycles_of_fixed ⟨rfl, rfl⟩, config_cycles_of_fixed ⟨rfl, rfl⟩,
    config_cycles_of_fixed ⟨rfl, rfl⟩, config_cycles_of_fixed ⟨rfl, rfl⟩,
    -- jumps, calls, returns, RST and PCHL
    fun _ => config_cycles_of_fixed (op := 0xC3) ⟨rfl, rfl⟩,
    fun k a16 => opcode_mkJcc k a16 ▸ config_cycles_of_fixed ?jcc,
    fun _ => config_cycles_of_fixed (op := 0xCD) ⟨rfl, rfl⟩, config_cycles_mkCcc,
    config_cycles_of_fixed ⟨rfl, rfl⟩, config_cycles_mkRcc,
    fun n => config_cycles_of_fixed ?rst, config_cycles_of_fixed ⟨rfl, rfl⟩,
    -- stack, ports and HLT
    fun p => config_cycles_of_fixed ?push, config_cycles_of_fixed ⟨rfl, rfl⟩,
    fun p => config_cycles_of_fixed ?pop, config_cycles_of_fixed ⟨rfl, rfl⟩,
    config_cycles_of_fixed ⟨rfl, rfl⟩, config_cycles_of_fixed ⟨rfl, rfl⟩,
    fun _ => config_cycles_of_fixed (op := 0xDB) ⟨rfl, rfl⟩, fun _ => config_cycles_of_fixed (op := 0xD3) ⟨rfl, rfl⟩,
    config_cycles_of_fixed ⟨rfl, rfl⟩⟩
  case mov => cases dst <;> cases src <;> exact ⟨rfl, rfl⟩
  case movFromM | movToM | mvi | inr | dcr => cases r <;> exact ⟨rfl, rfl⟩
  case lxi | ldax | stax | inx | dcx | dad | push | pop => cases p <;> exact ⟨rfl, rfl⟩
  case alu => cases op <;> cases r <;> exact ⟨rfl, rfl⟩
  case aluM | aluImm => cases op <;> exact ⟨rfl, rfl⟩
  case jcc => cases k <;> exact ⟨rfl, rfl⟩
  case rst => fin_cases n <;> exact ⟨rfl, rfl⟩

end Sys2Proof
end

section
/-! PROOFS. The round trip between rows and their bytes: what the decoder reads from an encoding, and what the encoder writes for a decoded row (R71, R76 to R81 of 30_encoding.md). -/

namespace Sys2Proof

/-! ### Decoding an encoding -/

theorem decodeOp_group0_word {op : Byte} (h : opField op 6 2 = 0) (w : Word) :
    decodeOp op w.lo w.hi = decodeGroup0 (opField op 3 3) (opField op 0 3) w.lo w := by
  simp only [decodeOp, h, Word.ofBytes_hi_lo]

theorem decodeOp_group3_word {op : Byte} (h : opField op 6 2 = 3) (w : Word) :
    decodeOp op w.lo w.hi = decodeGroup3 (opField op 3 3) (opField op 0 3) w.lo w := by
  simp only [decodeOp, h, Word.ofBytes_hi_lo]

/-- R78 read back by R77: a row has no operand byte, one (`d8`, `p8`), or the two halves of `d16` or `a16`
(R76), and the decoder does not look further. -/
theorem decodeOp_of_encode (i : Instr) : ∃ op operands, encode i = op :: operands ∧
    ∀ rest : List Byte, decodeOp op ((operands ++ rest).getD 0 0) ((operands ++ rest).getD 1 0) = i := by
  cases i with
  | lxiB w | lxiD w | lxiH w | lxiSp w | shld w | lhld w | sta w | lda w =>
    exact ⟨_, _, rfl, fun _ => decodeOp_group0_word (by rfl) w⟩
  | jnz w | jz w | jnc w | jc w | jpo w | jpe w | jp w | jm w
  | cnz w | cz w | cnc w | cc w | cpo w | cpe w | cp w | cm w | jmp w | call w =>
    exact ⟨_, _, rfl, fun _ => decodeOp_group3_word (by rfl) w⟩
  | _ => exact ⟨_, _, rfl, fun _ => rfl⟩

/-- An encoding is as long as its opcode demands, so the decoder splits it off the bytes that follow. -/
theorem decode_encode_append (i : Instr) (rest : List Byte) : decode (encode i ++ rest) = .ok (i, rest) := by
  obtain ⟨op, operands, he, hdec⟩ := decodeOp_of_encode i
  have hop : i.opcode = op := by rw [Instr.opcode, he, List.headD_cons]
  have hlen : (encode i).length = opLength op := by rw [← hop, ← Instr.length_eq_opLength, Instr.length]
  have hlong : ¬ (encode i ++ rest).length < opLength op := by simp [hlen]
  have hdrop : (encode i ++ rest).drop (opLength op) = rest := List.drop_left' hlen
  rw [he, List.cons_append] at hlong hdrop ⊢
  rw [decode, if_neg hlong, hdrop, hdec]

/-! ### Encoding what was decoded -/

/-- The bytes of `i` are its opcode and then as many of `b2` and `b3` as its length takes. -/
def HasOperandBytes (b2 b3 : Byte) (i : Instr) : Prop := encode i = [i.opcode, b2, b3].take i.length

/-- A row of group 00 with an 8-bit operand holds `d8`, one with a 16-bit operand `d16`. -/
theorem hasOperandBytes_decodeGroup0 {y z : Nat} (hy : y < 8) (hz : z < 8) (d8 : Byte) (d16 : Word) :
    HasOperandBytes (if (decodeGroup0 y z d8 d16).length = 3 then d16.lo else d8) d16.hi
      (decodeGroup0 y z d8 d16) := by
  interval_cases z <;> interval_cases y <;> rfl

/-- The same in group 11. -/
theorem hasOperandBytes_decodeGroup3 {y z : Nat} (hy : y < 8) (hz : z < 8) (d8 : Byte) (d16 : Word) :
    HasOperandBytes (if (decodeGroup3 y z d8 d16).length = 3 then d16.lo else d8) d16.hi
      (decodeGroup3 y z d8 d16) := by
  interval_cases z <;> interval_cases y <;> rfl

theorem hasOperandBytes_decodeGroup1 {y z : Nat} (hy : y < 8) (hz : z < 8) (b2 b3 : Byte) :
    HasOperandBytes b2 b3 (decodeGroup1 y z) := by
  interval_cases y <;> interval_cases z <;> rfl

theorem hasOperandBytes_mkAlu (op : AluOp) (src : Src) (b2 b3 : Byte) : HasOperandBytes b2 b3 (.mkAlu op src) := by
  cases op <;> (rcases src with (r | _) <;> [cases r; skip]) <;> rfl

theorem encode_decodeOp (op b2 b3 : Byte) : encode (decodeOp op b2 b3) = [op, b2, b3].take (opLength op) := by
  have hx : opField op 6 2 < 4 := opField_lt op 6 2
  have hy : opField op 3 3 < 8 := opField_lt op 3 3
  have hz : opField op 0 3 < 8 := opField_lt op 0 3
  have hbytes : HasOperandBytes b2 b3 (decodeOp op b2 b3) := by
    obtain h | h | h | h :
        opField op 6 2 = 0 ∨ opField op 6 2 = 1 ∨ opField op 6 2 = 2 ∨ opField op 6 2 = 3 := by omega
    · simpa only [decodeOp, h, Word.lo_ofBytes, Word.hi_ofBytes, ite_self] using
        hasOperandBytes_decodeGroup0 hy hz b2 (Word.ofBytes b3 b2)
    · simpa only [decodeOp, h] using hasOperandBytes_decodeGroup1 hy hz b2 b3
    · simpa only [decodeOp, h] using hasOperandBytes_mkAlu _ _ b2 b3
    · simpa only [decodeOp, h, Word.lo_ofBytes, Word.hi_ofBytes, ite_self] using
        hasOperandBytes_decodeGroup3 hy hz b2 (Word.ofBytes b3 b2)
  rwa [HasOperandBytes, opcode_decodeOp, length_decodeOp] at hbytes

/-- Settles O1: the decoder reads each row back (`decodeOp_of_encode`) and takes no byte that follows it. -/
theorem decodeOfEncodeIsIdentity : Obligations.DecodeOfEncodeIsIdentity := decode_encode_append

/-- Settles O2: in each group of the opcode byte an operand is encoded as the bytes it was read from. -/
theorem encodeOfDecodeIsTheBytesRead : Obligations.EncodeOfDecodeIsTheBytesRead := encode_decodeOp

end Sys2Proof
end

section
/-! PROOFS. What each form of instruction writes, component by component (R57 of 20_memory.md, R27, R30, R36 to R39 of 10_state.md). -/

namespace Sys2Proof.Machine

open Claims

/-- The flags `g` after `i` differ from the flags `f` before it only as the class of `i` allows (R30). -/
inductive FlagsFollowClass (i : Instr) (f g : Flags) : Prop where
  | unchanged (h : g = f)
  | all (hi : WritesFiveFlags i)
  | zsp (hi : WritesZsp i) (hcy : g.cy = f.cy) (hac : g.ac = f.ac)
  | carryAc (hi : WritesCarryAc i) (hz : g.z = f.z) (hs : g.s = f.s) (hp : g.p = f.p)
  | carry (hi : WritesCarry i) (hz : g.z = f.z) (hs : g.s = f.s) (hp : g.p = f.p) (hac : g.ac = f.ac)

/-- What `i` may have done between `s` and `t` to each component but the registers and PC. A form has to
show only the components it writes: by default the fields say that nothing changed. -/
structure Effect (i : Instr) (s t : State) : Prop where
  mem : t.mem = s.mem ∨ StoresToMemory i ∧ (s.Sound → t.Sound) := by exact .inl rfl
  sp : t.sp = s.sp ∨ MovesSp i := by exact .inl rfl
  flags : FlagsFollowClass i s.flags t.flags := by exact .unchanged rfl
  inte : t.inte = s.inte ∨ i = .ei ∧ t.inte = true ∨ i = .di ∧ t.inte = false := by exact .inl rfl
  shifter : (t.shHi = s.shHi ∧ t.shLo = s.shLo ∧ t.shOff = s.shOff) ∨ ∃ p8, i = .outPort p8 := by
    exact .inl ⟨rfl, rfl, rfl⟩
  buttons : t.buttons = s.buttons := by rfl

/-! ### The effect of an operation, PC moved before it -/

section

variable {i : Instr} {len : Nat} {s t u : State}

theorem Effect.ite {p : Prop} [Decidable p] (ht : Effect i s t) (hu : Effect i s u) :
    Effect i s (if p then t else u) := by
  split
  · exact ht
  · exact hu

theorem Effect.setPc (h : Effect i s t) (w : Word) : Effect i s (t.setPc w) :=
  ⟨h.mem, h.sp, h.flags, h.inte, h.shifter, h.buttons⟩

theorem Effect.write (hi : StoresToMemory i) (a : Word) (v : Byte) : Effect i s ((s.advance len).write a v) where
  mem := .inr ⟨hi, State.sound_write a v⟩

theorem Effect.write16 (hi : StoresToMemory i) (a v : Word) : Effect i s ((s.advance len).write16 a v) where
  mem := .inr ⟨hi, State.sound_write16 a v⟩

theorem Effect.push16 (hm : StoresToMemory i) (hsp : MovesSp i) (v : Word) :
    Effect i s ((s.advance len).push16 v) where
  mem := .inr ⟨hm, State.sound_push16 v⟩
  sp := .inr hsp

theorem Effect.setRp {p : Rp} (hsp : p = .sp → MovesSp i) (v : Word) : Effect i s ((s.advance len).setRp p v) := by
  cases p with
  | sp => exact { sp := .inr (hsp rfl) }
  | bc | de | hl => exact {}

theorem Effect.aluApply (hi : WritesFiveFlags i) (op : AluOp) (v : Byte) :
    Effect i s (aluApply op v (s.advance len)) :=
  .ite { flags := .all hi } { flags := .all hi }

theorem Effect.writeSrc_zsp (hi : WritesZsp i) {dst : Src} (hm : dst = .m → StoresToMemory i) (v : Byte) (n : Int) :
    Effect i s (((s.advance len).writeSrc dst v).setFlags (s.flags.zsp n)) := by
  cases dst with
  | reg r => exact { flags := .zsp hi rfl rfl }
  | m => exact { mem := .inr ⟨hm rfl, State.sound_write s.hl v⟩, flags := .zsp hi rfl rfl }

theorem Effect.putRotated (hi : WritesCarry i) (result : Byte × Bool) :
    Effect i s (putRotated result (s.advance len)) where
  flags := .carry hi rfl rfl rfl rfl

theorem Effect.portOut (c : Config) (p v : Byte) : Effect (.outPort p) s ((s.advance len).portOut c p v) where
  mem := .inl (State.portOut_mem ..)
  sp := .inl (State.portOut_sp ..)
  flags := .unchanged (State.portOut_flags ..)
  inte := .inl (State.portOut_inte ..)
  shifter := .inr ⟨p, rfl⟩
  buttons := State.portOut_buttons ..

end

/-! ### The effect of every row -/

/-- `i`, when it completes, has an effect that its classes allow. -/
def ActsByClass (i : Instr) : Prop := ∀ s t, exec i s = .next t → Effect i s t

theorem actsByClass_of_exec_eq {i : Instr} {len : Nat} {operation : State → State}
    (he : ∀ s, exec i s = complete len operation s) (h : ∀ s, Effect i s (operation (s.advance len))) :
    ActsByClass i := by
  intro s t ht
  rw [he] at ht
  cases complete_next ht
  exact h s

theorem actsByClass_unimplemented {i : Instr} {op : Byte} (h : i.unimplementedByte = some op) : ActsByClass i := by
  intro s t ht
  cases (exec_unimplemented h s).symm.trans ht

theorem actsByClass (i : Instr) : ActsByClass i := by
  apply Instr.by_form
  -- data transfer
  case mov => exact fun dst src => actsByClass_of_exec_eq (exec_mov dst src) fun _ => {}
  case movFromM => exact fun dst => actsByClass_of_exec_eq (exec_movFromM dst) fun _ => {}
  case movToM =>
    exact fun src => actsByClass_of_exec_eq (exec_movToM src) fun _ =>
      .write (by simp [StoresToMemory]) ..
  case mvi =>
    rintro (dst | _) d8
    · exact actsByClass_of_exec_eq (exec_mvi (.reg dst) d8) fun _ => {}
    · exact actsByClass_of_exec_eq (exec_mvi .m d8) fun _ => .write (by simp [StoresToMemory]) ..
  case lxi =>
    exact fun p w => actsByClass_of_exec_eq (exec_lxi p w) fun _ =>
      .setRp (by rintro rfl; simp [MovesSp, Instr.mkLxi]) w
  case lda => exact fun a16 => actsByClass_of_exec_eq (exec_lda a16) fun _ => {}
  case sta => exact fun a16 => actsByClass_of_exec_eq (exec_sta a16) fun _ => .write (by simp [StoresToMemory]) ..
  case lhld => exact fun a16 => actsByClass_of_exec_eq (exec_lhld a16) fun _ => {}
  case shld => exact fun a16 => actsByClass_of_exec_eq (exec_shld a16) fun _ => .write16 (by simp [StoresToMemory]) ..
  case ldax => exact fun p => actsByClass_of_exec_eq (exec_ldax p) fun _ => {}
  case stax => exact fun p => actsByClass_of_exec_eq (exec_stax p) fun _ => .write (by simp [StoresToMemory]) ..
  case xchg => exact actsByClass_of_exec_eq exec_xchg fun _ => {}
  -- arithmetic and logic
  case alu =>
    exact fun op src => actsByClass_of_exec_eq (exec_alu op src) fun _ =>
      .aluApply (by simp [WritesFiveFlags]) op ..
  case aluImm =>
    exact fun op d8 => actsByClass_of_exec_eq (exec_aluImm op d8) fun _ =>
      .aluApply (by simp [WritesFiveFlags]) op ..
  case inr =>
    exact fun dst => actsByClass_of_exec_eq (exec_inr dst) fun _ =>
      .writeSrc_zsp (by simp [WritesZsp]) (by rintro rfl; simp [StoresToMemory, Instr.mkInr]) ..
  case dcr =>
    exact fun dst => actsByClass_of_exec_eq (exec_dcr dst) fun _ =>
      .writeSrc_zsp (by simp [WritesZsp]) (by rintro rfl; simp [StoresToMemory, Instr.mkDcr]) ..
  case inx =>
    exact fun p => actsByClass_of_exec_eq (exec_inx p) fun _ =>
      .setRp (by rintro rfl; simp [MovesSp, Instr.mkInx]) _
  case dcx =>
    exact fun p => actsByClass_of_exec_eq (exec_dcx p) fun _ =>
      .setRp (by rintro rfl; simp [MovesSp, Instr.mkDcx]) _
  case dad =>
    exact fun p => actsByClass_of_exec_eq (exec_dad p) fun _ =>
      { flags := .carryAc (by simp [WritesCarryAc]) rfl rfl rfl }
  case daa => exact actsByClass_of_exec_eq exec_daa fun _ => { flags := .all (by simp [WritesFiveFlags]) }
  case rlc => exact actsByClass_of_exec_eq exec_rlc fun _ => .putRotated (by simp [WritesCarry]) _
  case rrc => exact actsByClass_of_exec_eq exec_rrc fun _ => .putRotated (by simp [WritesCarry]) _
  case ral => exact actsByClass_of_exec_eq exec_ral fun _ => .putRotated (by simp [WritesCarry]) _
  case rar => exact actsByClass_of_exec_eq exec_rar fun _ => .putRotated (by simp [WritesCarry]) _
  case cma => exact actsByClass_of_exec_eq exec_cma fun _ => {}
  case cmc => exact actsByClass_of_exec_eq exec_cmc fun _ => { flags := .carry (by simp [WritesCarry]) rfl rfl rfl rfl }
  case stc => exact actsByClass_of_exec_eq exec_stc fun _ => { flags := .carry (by simp [WritesCarry]) rfl rfl rfl rfl }
  -- branches
  case jmp => exact fun a16 => actsByClass_of_exec_eq (exec_jmp a16) fun _ => {}
  case jcc => exact fun k a16 => actsByClass_of_exec_eq (exec_jcc k a16) fun _ => .ite {} {}
  case call =>
    exact fun a16 => actsByClass_of_exec_eq (exec_call a16) fun _ =>
      (Effect.push16 (by simp [StoresToMemory]) (by simp [MovesSp]) _).setPc _
  case ccc =>
    exact fun k a16 => actsByClass_of_exec_eq (exec_ccc k a16) fun _ =>
      .ite ((Effect.push16 (by simp [StoresToMemory]) (by simp [MovesSp]) _).setPc _) {}
  case ret => exact actsByClass_of_exec_eq exec_ret fun _ => { sp := .inr (by simp [MovesSp]) }
  case rcc => exact fun k => actsByClass_of_exec_eq (exec_rcc k) fun _ => .ite { sp := .inr (by simp [MovesSp]) } {}
  case rst =>
    exact fun n => actsByClass_of_exec_eq (exec_rst n) fun _ =>
      (Effect.push16 (by simp [StoresToMemory]) (by simp [MovesSp]) _).setPc _
  case pchl => exact actsByClass_of_exec_eq exec_pchl fun _ => {}
  -- stack, ports and control
  case push =>
    exact fun p => actsByClass_of_exec_eq (exec_push p) fun _ =>
      .push16 (by simp [StoresToMemory]) (by simp [MovesSp]) _
  case pushPsw =>
    exact actsByClass_of_exec_eq exec_pushPsw fun _ =>
      .push16 (by simp [StoresToMemory]) (by simp [MovesSp]) _
  case pop => exact fun p => actsByClass_of_exec_eq (exec_pop p) fun _ => { sp := .inr (by simp [MovesSp]) }
  case popPsw =>
    exact actsByClass_of_exec_eq exec_popPsw fun _ =>
      { sp := .inr (by simp [MovesSp]), flags := .all (by simp [WritesFiveFlags]) }
  case xthl =>
    exact actsByClass_of_exec_eq exec_xthl fun s =>
      { mem := .inr ⟨by simp [StoresToMemory], State.sound_write16 s.sp (s.pair .hl)⟩ }
  case sphl => exact actsByClass_of_exec_eq exec_sphl fun _ => { sp := .inr (by simp [MovesSp]) }
  case inPort => exact fun p8 => actsByClass_of_exec_eq (exec_inPort p8) fun _ => {}
  case outPort => exact fun p8 => actsByClass_of_exec_eq (exec_outPort p8) fun _ => .portOut config p8 _
  case ei => exact actsByClass_of_exec_eq exec_ei fun _ => { inte := .inr (.inl ⟨rfl, rfl⟩) }
  case di => exact actsByClass_of_exec_eq exec_di fun _ => { inte := .inr (.inr ⟨rfl, rfl⟩) }
  case hlt => exact actsByClass_of_exec_eq exec_hlt fun _ => {}
  case nop => exact actsByClass_of_exec_eq exec_nop fun _ => {}
  case unimplemented => exact fun _ _ h => actsByClass_unimplemented h

end Sys2Proof.Machine

end

section
/-! PROOFS. Memory keeps its canonical form along every step, load and host transaction, and in that form it is its bytes (R50 of 20_memory.md, R5 to R9 of 00_scope.md). -/

namespace Sys2Proof.Machine

theorem sound_of_complete {len : Nat} {operation : State → State} {s t : State} (hs : s.Sound)
    (h : complete len operation s = .next t) (hmem : ∀ s, (operation s).mem = s.mem) : t.Sound := by
  cases complete_next h
  exact State.sound_of_mem (hmem (s.advance len)) hs

/-- A row writes memory by the laws of `Laws/Sound.lean` or not at all, so it keeps the canonical form. -/
theorem sound_of_exec_next {i : Instr} {s t : State} (hs : s.Sound) (h : exec i s = .next t) : t.Sound := by
  obtain e | ⟨_, hkeeps⟩ := (actsByClass i s t h).mem
  · exact State.sound_of_mem e hs
  · exact hkeeps hs

/-- The four forms that read a parameter write no memory. -/
theorem sound_of_execWith_next {c : Config} {i : Instr} {s t : State} (hs : s.Sound)
    (h : execWith c i s = .next t) : t.Sound := by
  obtain ⟨p, _, e⟩ | ⟨_, e⟩ | ⟨p8, _, e⟩ | ⟨p8, _, e⟩ | e := execWith_cases c i s
  · exact sound_of_complete hs (e.symm.trans h) fun _ => rfl
  · exact sound_of_complete hs (e.symm.trans h) fun _ => rfl
  · exact sound_of_complete hs (e.symm.trans h) fun _ => rfl
  · exact sound_of_complete hs (e.symm.trans h) fun _ => State.portOut_mem ..
  · exact sound_of_exec_next hs (e.symm.trans h)

theorem sound_of_fetchExecute_next {c : Config} {s t : State} (hs : s.Sound) (h : fetchExecute c s = .next t) :
    t.Sound :=
  sound_of_execWith_next hs (execWith_of_next h)

/-! ### Loads and host transactions -/

theorem State.created_sound (c : Config) : (State.created c).Sound := rfl

theorem State.sound_load {s : State} (bytes : List Byte) (base : Nat) (hs : s.Sound) : (s.load bytes base).Sound := by
  induction bytes generalizing s base with
  | nil => exact hs
  | cons v rest ih =>
    rw [State.load]
    split
    · exact ih (base + 1) (State.sound_write (BitVec.ofNat 16 base) v hs)
    · exact hs

theorem bootState_sound (c : Config) (images : List (List Byte × Nat)) : (bootState c images).Sound :=
  List.foldlRecOn images _ (State.created_sound c) fun _ hs image _ => State.sound_load image.1 image.2 hs

theorem State.sound_requestInterrupt {s : State} (c : Config) (v : Fin 8) (hs : s.Sound) :
    (s.requestInterrupt c v).Sound := by
  cases hi : s.inte with
  | false => rwa [State.requestInterrupt_of_not_inte hi]
  | true =>
    rw [State.requestInterrupt_of_inte hi]
    exact State.sound_push16 s.pc hs

theorem transact_sound (c : Config) (m : HostMove) {s : State} (hs : s.Sound) : (transact c m s).Sound := by
  cases m with
  | step =>
    change (hostStep c s).Sound
    rcases fetchExecute_fault_or_next c s with ⟨hf, _⟩ | ⟨_, t, e⟩
    · rw [hostStep_of_faults hf]
      exact hs
    · rw [hostStep_of_next e]
      split <;> exact sound_of_fetchExecute_next hs e
  | requestInterrupt v => exact State.sound_requestInterrupt c v hs
  | setButtons b => exact hs

theorem hostRun_sound (c : Config) (moves : List HostMove) {s : State} (hs : s.Sound) :
    (hostRun c moves s).Sound := by
  induction moves generalizing s with
  | nil => exact hs
  | cons m rest ih =>
    have hm := transact_sound c m hs
    rw [hostRun]
    cases h : transact c m s with
    | running t =>
      rw [h] at hm
      exact ih hm
    | halted t | failed r t | unmodelled r t =>
      rw [h] at hm
      exact hm

/-! ### The canonical form is unique -/

/-- No address from 65536 on is listed. -/
theorem Memory.read_above {m : Memory} {lo x : Nat} (h : m.wfFrom lo = true) (hx : 65536 ≤ x) :
    m.read x = Memory.unlisted := by
  induction m generalizing lo with
  | nil => rfl
  | cons cell rest ih =>
    obtain ⟨b, w⟩ := cell
    simp only [Memory.wfFrom, Bool.and_eq_true, decide_eq_true_eq] at h
    obtain ⟨⟨⟨_, hb⟩, _⟩, hrest⟩ := h
    rw [Memory.read, if_neg (by omega)]
    exact ih hrest

theorem State.mem_eq_of_read_eq {s t : State} (hs : s.Sound) (ht : t.Sound) (h : ∀ a : Word, s.read a = t.read a) :
    s.mem = t.mem := by
  apply Memory.ext_of_wfFrom hs ht
  intro x
  by_cases hx : x < 65536
  · simpa only [State.read, BitVec.toNat_ofNat, Nat.mod_eq_of_lt hx] using h (BitVec.ofNat 16 x)
  · rw [Memory.read_above hs (by omega), Memory.read_above ht (by omega)]

end Sys2Proof.Machine

namespace Sys2Proof

open Machine

/-- Settles O12: a step runs the fetched row, and every row keeps the canonical form, whether it reads a
parameter (`sound_of_execWith_next`) or not (`sound_of_exec_next`, from the effect of its form). -/
theorem stepKeepsStateSound : Obligations.StepKeepsStateSound :=
  ⟨fun _ _ => sound_of_fetchExecute_next, fun _ _ _ => sound_of_fetchExecute_next⟩

/-- Settles O13: loads by induction on the bytes, runs by induction on the moves (`transact_sound`). -/
theorem hostTransactionsKeepStateSound : Obligations.HostTransactionsKeepStateSound :=
  ⟨bootState_sound, fun _ bytes base => State.sound_load bytes base, fun c moves _ => hostRun_sound c moves⟩

/-- Settles O14: `Memory.ext_of_wfFrom`, where an address outside the 64 KB is listed in neither memory. -/
theorem soundMemoriesThatReadAlikeAreEqual : Obligations.SoundMemoriesThatReadAlikeAreEqual :=
  fun _ _ => State.mem_eq_of_read_eq

/-- Settles O11: the state after creation lists no byte. -/
theorem resetStateIsSound : Obligations.ResetStateIsSound := State.created_sound config

end Sys2Proof
end

section
/-! PROOFS. Which instructions write INTE, the shifter, the flags, memory, SP and PC, over the whole opcode table (R26, R27, R30, R36 to R39 of 10_state.md, R57 of 20_memory.md). -/

namespace Sys2Proof.Machine

open Claims

/-- `i`, when it completes, leaves PC past itself. -/
def PcMovesPast (i : Instr) : Prop := ∀ s t, exec i s = .next t → t.pc = s.pc + BitVec.ofNat 16 i.length

/-- R26, form by form: a row transfers control, or no part of its operation writes PC. -/
theorem pcMovesPast_of_not_transfersControl {i : Instr} : ¬ TransfersControl i → PcMovesPast i := by
  revert i
  apply Instr.by_form
  case jmp | jcc | call | ccc | ret | rcc | rst | pchl =>
    intros
    rename_i hno
    exact absurd (by simp [TransfersControl]) hno
  case unimplemented =>
    intro i op hop _ s t h
    cases (exec_unimplemented hop s).symm.trans h
  case outPort =>
    rintro p8 - s t ⟨⟩
    exact State.portOut_pc ..
  case mov => rintro ⟨⟩ ⟨⟩ - s t ⟨⟩ <;> rfl
  case alu => rintro ⟨⟩ (⟨⟨⟩⟩ | _) - s t ⟨⟩ <;> rfl
  case mvi => rintro (⟨⟨⟩⟩ | _) d8 - s t ⟨⟩ <;> rfl
  case inr | dcr => rintro (⟨⟨⟩⟩ | _) - s t ⟨⟩ <;> rfl
  case lxi | aluImm => rintro ⟨⟩ d - s t ⟨⟩ <;> rfl
  case movFromM | movToM | ldax | stax | inx | dcx | dad | push | pop => rintro ⟨⟩ - s t ⟨⟩ <;> rfl
  case lda | sta | lhld | shld | inPort =>
    rintro d - s t ⟨⟩
    rfl
  case xchg | daa | rlc | rrc | ral | rar | cma | cmc | stc | pushPsw | popPsw | xthl | sphl | ei | di | hlt | nop =>
    rintro - s t ⟨⟩
    rfl

end Sys2Proof.Machine

namespace Sys2Proof

open Machine Claims

/-- Settles O54 from the effect of the fetched row. -/
theorem controlStateIsWrittenByItsInstructionsOnly : Obligations.ControlStateIsWrittenByItsInstructionsOnly := by
  intro s t h
  have heff := actsByClass s.fetched s t (exec_of_step_next h)
  exact ⟨heff.inte.resolve_left, fun hno => heff.shifter.resolve_right fun ⟨p8, e⟩ => hno p8 e, heff.buttons⟩

/-- Settles O55: each class of R30 leaves alone the flags it does not name. -/
theorem flagsAreWrittenByTheirClassesOnly : Obligations.FlagsAreWrittenByTheirClassesOnly := by
  intro i s t h
  cases (actsByClass i s t h).flags with
  | unchanged e => simp [e]
  | all hi => simp [hi]
  | zsp hi hcy hac => simp [hi, hcy, hac]
  | carryAc hi hz hs hp => simp [hi, hz, hs, hp]
  | carry hi hz hs hp hac => simp [hi, hz, hs, hp, hac]

/-- Settles O56 from the effect of the row: where memory is the same list, every byte reads as before. -/
theorem memoryAndSpAreWrittenByTheirInstructionsOnly : Obligations.MemoryAndSpAreWrittenByTheirInstructionsOnly := by
  intro i s t h
  have heff := actsByClass i s t h
  refine ⟨fun ⟨a, hne⟩ => ?_, heff.sp.resolve_left⟩
  obtain e | ⟨hi, _⟩ := heff.mem
  · exact absurd (by rw [State.read, e, State.read]) hne
  · exact hi

/-- Settles O57: `pcMovesPast_of_not_transfersControl`, as numbers. -/
theorem pcMovesPastTheInstruction : Obligations.PcMovesPastTheInstruction := by
  intro i s t h hno
  rw [pcMovesPast_of_not_transfersControl hno s t h, BitVec.toNat_add, BitVec.toNat_ofNat, Nat.add_mod_mod]

end Sys2Proof
end

section
/-! PROOFS. Branches, the stack and interrupts: the whole next state of each transfer, and what a return or a pop finds after a call, a push or a delivery (R179 to R210 of 43_branch.md, R230 to R235 of 44_stack_io_control.md, R257 to R266 of 60_exceptions.md). -/

namespace Sys2Proof.Machine

open Claims

/-! ### Conditions (R75) -/

theorem cond_eq_holds (s : State) (k : Cond) : s.flags.cond k = holds s k := by
  cases k with
  | z | c | pe | m => exact beq_true _
  | nz | nc | po | p => exact beq_false _

theorem doJcc_eq (k : Cond) (a16 : Word) (s : State) :
    doJcc k a16 s = { s with pc := if holds s k then a16 else s.pc } := by
  rw [doJcc, cond_eq_holds]
  cases holds s k <;> rfl

theorem doRcc_eq (k : Cond) (s : State) : doRcc k s = if holds s k then doRet s else s := by
  rw [doRcc, cond_eq_holds]

theorem doCcc_of_holds {k : Cond} {s : State} (h : holds s k = true) (a16 : Word) : doCcc k a16 s = doCall a16 s := by
  rw [doCcc, cond_eq_holds, if_pos h]

theorem doCcc_of_not_holds {k : Cond} {s : State} (h : holds s k = false) (a16 : Word) : doCcc k a16 s = s := by
  rw [doCcc, cond_eq_holds, h]
  rfl

/-! ### Pushes and calls -/

/-- What a push, a call or RST of length `n` has to show: that it completes in one push after PC has
moved, and goes to `target`. The bytes are then R54's. -/
theorem pushesAndGoes_of_exec_eq {i : Instr} {s : State} {n : Nat} {w target : Word}
    (h : exec i s = .next (((s.advance n).push16 w).setPc target)) : PushesAndGoes i s w target := by
  refine ⟨_, h, rfl, fun x => ?_⟩
  rw [← Word.hi_eq_ofNat, ← Word.lo_eq_ofNat_mod]
  exact (s.advance n).read_push16 w x

/-! ### Pops and returns -/

/-- A pop reads what was pushed, whatever else but memory and SP has been written since. -/
theorem State.top16_of_pushed {s t : State} {w : Word} (hmem : t.mem = (s.push16 w).mem)
    (hsp : t.sp = (s.push16 w).sp) : t.top16 = w := by
  rw [← s.top16_push16 w, State.top16, State.read16, State.read, State.read, hmem, hsp]
  rfl

@[simp] theorem doRet_regs (s : State) : (doRet s).regs = s.regs := by
  simp [doRet, State.returnToTop]

@[simp] theorem doRet_flags (s : State) : (doRet s).flags = s.flags := by
  simp [doRet, State.returnToTop]

@[simp] theorem doRet_inte (s : State) : (doRet s).inte = s.inte := by
  simp [doRet, State.returnToTop]

@[simp] theorem doCall_regs (a16 : Word) (s : State) : (doCall a16 s).regs = s.regs := by
  simp [doCall]

@[simp] theorem doCall_flags (a16 : Word) (s : State) : (doCall a16 s).flags = s.flags := by
  simp [doCall]

theorem doRet_of_pushed {s t : State} {w : Word} (hmem : t.mem = (s.push16 w).mem) (hsp : t.sp = (s.push16 w).sp) :
    (doRet t).pc = w ∧ (doRet t).sp = s.sp := by
  refine ⟨State.top16_of_pushed hmem hsp, ?_⟩
  rw [doRet, State.returnToTop, State.setPc_sp, State.dropTop16_sp, hsp, State.push16_sp, BitVec.sub_add_cancel]

theorem doPop_of_pushed (p : RegPair) {s t : State} {w : Word} (hmem : t.mem = (s.push16 w).mem)
    (hsp : t.sp = (s.push16 w).sp) : (doPop p t).pair p = w ∧ (doPop p t).sp = s.sp := by
  rw [doPop, State.setPair_pair, if_pos rfl, State.setPair_sp, State.dropTop16_sp, hsp, State.push16_sp,
    BitVec.sub_add_cancel]
  exact ⟨State.top16_of_pushed hmem hsp, rfl⟩

/-- The flag word gives its five flags back (`Flags.ofWord_word`). -/
theorem doPopPsw_of_pushed {s t : State} {a : Byte} {f : Flags}
    (hmem : t.mem = (s.push16 (Word.ofBytes a f.word)).mem) (hsp : t.sp = (s.push16 (Word.ofBytes a f.word)).sp) :
    (doPopPsw t).regs.a = a ∧ (doPopPsw t).flags = f ∧ (doPopPsw t).sp = s.sp := by
  rw [doPopPsw, State.top16_of_pushed hmem hsp, Word.hi_ofBytes, Word.lo_ofBytes, Flags.ofWord_word,
    State.setReg_sp, State.setFlags_sp, State.dropTop16_sp, hsp, State.push16_sp, BitVec.sub_add_cancel]
  exact ⟨rfl, rfl, rfl⟩

theorem doPop_eq (p : RegPair) (s : State) : doPop p s =
    { s with
      sp := s.sp + 2
      regs := (s.regs.set (pairHi p) (s.read (s.sp + 1))).set (pairLo p) (s.read s.sp) } := by
  rw [doPop, State.top16, State.read16, State.setPair_ofBytes]
  rfl

theorem doPopPsw_eq (s : State) : doPopPsw s =
    { s with
      sp := s.sp + 2
      regs := { s.regs with a := s.read (s.sp + 1) }
      flags := Flags.ofWord (s.read s.sp) } := by
  rw [doPopPsw, State.top16, State.read16, Word.hi_ofBytes, Word.lo_ofBytes]
  rfl

theorem doXthl_eq (s : State) : doXthl s =
    { s.write16 s.sp s.hl with regs := { s.regs with h := s.read (s.sp + 1), l := s.read s.sp } } := by
  rw [doXthl, State.top16, State.read16, State.setPair_ofBytes]
  rfl

theorem read_write16_hl (s : State) (a x : Word) : (s.write16 a s.hl).read x =
    if x = a + 1 then s.regs.h else if x = a then s.regs.l else s.read x :=
  read_doShld a s x

/-! ### Interrupts -/

@[simp] theorem State.takeInterrupt_regs (c : Config) (v : Fin 8) (s : State) :
    (s.takeInterrupt c v).regs = s.regs := by
  simp [State.takeInterrupt]

@[simp] theorem State.takeInterrupt_flags (c : Config) (v : Fin 8) (s : State) :
    (s.takeInterrupt c v).flags = s.flags := by
  simp [State.takeInterrupt]

@[simp] theorem State.takeInterrupt_inte (c : Config) (v : Fin 8) (s : State) :
    (s.takeInterrupt c v).inte = false := by
  simp [State.takeInterrupt]

theorem State.inte_requestInterrupt (c : Config) (v : Fin 8) (s : State) :
    (s.requestInterrupt c v).inte = false := by
  cases h : s.inte with
  | false => rw [State.requestInterrupt_of_not_inte h, h]
  | true =>
    rw [State.requestInterrupt_of_inte h]
    rfl

theorem State.pc_requestInterrupt {s : State} (h : s.inte = true) (c : Config) (v : Fin 8) :
    (s.requestInterrupt c v).pc = c.vecAddr v := by
  rw [State.requestInterrupt_of_inte h]
  rfl

theorem State.requestInterrupt_requestInterrupt (c : Config) (v w : Fin 8) (s : State) :
    (s.requestInterrupt c v).requestInterrupt c w = s.requestInterrupt c v :=
  State.requestInterrupt_of_not_inte (s.inte_requestInterrupt c v) c w

end Sys2Proof.Machine

namespace Sys2Proof

open Machine

/-- Settles O35: each jump writes PC alone (`doJcc_eq` for the conditional ones). -/
theorem jumpsSetOnlyThePc : Obligations.JumpsSetOnlyThePc :=
  ⟨exec_jmp, fun k a16 s => (exec_jcc k a16 s).trans (congrArg _ (doJcc_eq k a16 (s.advance 3))), exec_pchl⟩

/-- Settles O36: each is one push of `next` and a jump (`pushesAndGoes_of_exec_eq`). -/
theorem callsPushTheReturnAddress : Obligations.CallsPushTheReturnAddress := by
  refine ⟨fun a16 s => pushesAndGoes_of_exec_eq (n := 3) (exec_call a16 s), fun k a16 s h => ?_, fun k a16 s h => ?_,
    fun n s => pushesAndGoes_of_exec_eq (n := 1) (exec_rst n s)⟩
  · exact pushesAndGoes_of_exec_eq (n := 3)
      ((exec_ccc k a16 s).trans (congrArg _ (doCcc_of_holds (s := s.advance 3) h a16)))
  · exact (exec_ccc k a16 s).trans (congrArg _ (doCcc_of_not_holds (s := s.advance 3) h a16))

/-- Settles O37: a conditional return is RET or nothing (`doRcc_eq`). -/
theorem returnsPopThePc : Obligations.ReturnsPopThePc :=
  ⟨exec_ret, fun k s => (exec_rcc k s).trans (congrArg _ (doRcc_eq k (s.advance 1)))⟩

/-- Settles O38: RET pops what CALL pushed (`doRet_of_pushed`), the address after the CALL. -/
theorem callThenReturnResumesAfterTheCall : Obligations.CallThenReturnResumesAfterTheCall := by
  intro a16 s
  refine ⟨_, _, exec_call a16 s, exec_ret _, ?_⟩
  obtain ⟨hpc, hsp⟩ := doRet_of_pushed (s := s.advance 3) (w := s.pc + 3)
    (t := (doCall a16 (s.advance 3)).advance 1) rfl rfl
  exact ⟨hpc, hsp, by simp, by simp⟩

/-- Settles O40: each is one push and no jump, so the target is the moved PC. -/
theorem pushInstructions : Obligations.PushInstructions :=
  ⟨fun p s => pushesAndGoes_of_exec_eq (n := 1) (exec_push p s),
    fun s => pushesAndGoes_of_exec_eq (n := 1) (exec_pushPsw s)⟩

/-- Settles O41: `doPop_eq` and `doPopPsw_eq` after PC has moved. -/
theorem popInstructions : Obligations.PopInstructions :=
  ⟨fun p s => (exec_pop p s).trans (congrArg _ (doPop_eq p (s.advance 1))),
    fun s => (exec_popPsw s).trans (congrArg _ (doPopPsw_eq (s.advance 1)))⟩

/-- Settles O42: what is put into the registers and the flags between leaves memory and SP as the push
left them (`doPop_of_pushed`, `doPopPsw_of_pushed`). -/
theorem pushThenPopRestoresTheRegisters : Obligations.PushThenPopRestoresTheRegisters :=
  ⟨fun p s x f => ⟨_, _, exec_push p s, exec_pop p _, doPop_of_pushed p (s := s.advance 1) (w := s.pair p)
      (t := ({ doPush p (s.advance 1) with regs := x, flags := f } : State).advance 1) rfl rfl⟩,
    fun s x f => ⟨_, _, exec_pushPsw s, exec_popPsw _, doPopPsw_of_pushed (s := s.advance 1)
      (t := ({ doPushPsw (s.advance 1) with regs := x, flags := f } : State).advance 1) rfl rfl⟩⟩

/-- Settles O43: XTHL stores HL and loads the word read before the store; SPHL writes SP alone. -/
theorem exchangeWithTheStackTopAndSphl : Obligations.ExchangeWithTheStackTopAndSphl :=
  ⟨fun s => ⟨_, (exec_xthl s).trans (congrArg Host.Outcome.next (doXthl_eq (s.advance 1))), rfl,
    read_write16_hl (s.advance 1) s.sp⟩, exec_sphl⟩

/-- Settles O51: a delivered request goes to the vector's address. -/
theorem interruptVectorAddresses : Obligations.InterruptVectorAddresses := by
  intro s h
  simp only [State.pc_requestInterrupt h]
  refine ⟨rfl, rfl, fun v => ?_⟩
  exact (BitVec.toNat_ofNat _ _).trans (Nat.mod_eq_of_lt (by omega))

/-- Settles O52: after a request INTE is clear, delivered or not, so the next one is lost. -/
theorem secondRequestIsDropped : Obligations.SecondRequestIsDropped :=
  fun c v w s => ⟨s.requestInterrupt_requestInterrupt c v w,
    congrArg (exec .ei) (s.requestInterrupt_requestInterrupt c v w), s.inte_requestInterrupt c v⟩

/-- Settles O53: the delivery pushed PC as CALL does, so RET pops it; EI between leaves the stack alone. -/
theorem returnFromHandlerResumes : Obligations.ReturnFromHandlerResumes := by
  intro c v s h
  rw [State.requestInterrupt_of_inte h]
  refine ⟨⟨_, exec_ret _, ?_⟩, ⟨_, _, exec_ei _, exec_ret _, ?_⟩⟩
  · obtain ⟨hpc, hsp⟩ := doRet_of_pushed (s := s) (w := s.pc) (t := (s.takeInterrupt c v).advance 1) rfl rfl
    exact ⟨hpc, hsp, by simp, by simp, by simp⟩
  · obtain ⟨hpc, hsp⟩ := doRet_of_pushed (s := s) (w := s.pc)
      (t := (doEi ((s.takeInterrupt c v).advance 1)).advance 1) rfl rfl
    exact ⟨hpc, hsp, by simp [doEi]⟩

/-- Settles O45: EI and DI write INTE alone, and the next request already sees what they wrote (D10). -/
theorem machineControlInstructions : Obligations.MachineControlInstructions := by
  refine ⟨fun s => ⟨exec_ei s, exec_di s, exec_hlt s, exec_nop s⟩, fun c v s => ⟨_, exec_ei s, ?_⟩,
    fun c v s => ⟨_, exec_di s, ?_⟩⟩
  · exact State.pc_requestInterrupt rfl c v
  · exact State.requestInterrupt_of_not_inte rfl c v

end Sys2Proof
end

section
/-! PROOFS. Decimal adjust, compare, the rotates and the carry instructions (R139 of 41_arithmetic.md, R159 to R168 of 42_logical.md). -/

namespace Sys2Proof.Machine

open Claims

/-! ### DAA (R139) -/

theorem stage1Fires_iff (s : State) : stage1Fires s = true ↔ 9 < s.regs.a.toNat % 16 ∨ s.flags.ac = true := by
  simp [stage1Fires]

theorem stage2Fires_iff (c : Config) (s : State) :
    stage2Fires c s = true ↔ 9 < stage1Sum c s / 16 ∨ s.flags.cy = true := by
  simp [stage2Fires]

/-- AC after DAA. -/
def adjustedAc (c : Config) (s : State) : Bool :=
  if stage1Fires s then
    (match c.daaAcRule with
      | .nibbleCarry => decide (16 ≤ s.regs.a.toNat % 16 + 6)
      | .set => true)
  else s.flags.ac

theorem daaStage1_eq (c : Config) (s : State) :
    daaStage1 c s.regs.a s.flags.ac = (stage1Sum c s, adjustedAc c s) := by
  simp only [daaStage1, stage1Sum, adjustedAc, ← stage1Fires_iff]
  cases stage1Fires s <;> rfl

theorem ofNat_mod_256 (n : Nat) : BitVec.ofNat 8 (n % 256) = BitVec.ofNat 8 n :=
  BitVec.eq_of_toNat_eq (by simp)

theorem daaStage2_eq (c : Config) (s : State) :
    daaStage2 (stage1Sum c s) s.flags.cy =
      (BitVec.ofNat 8 (adjusted c s), s.flags.cy || stage2Fires c s) := by
  simp only [daaStage2, adjusted, ← stage2Fires_iff]
  rw [ofNat_mod_256]
  cases stage2Fires c s <;> simp

theorem daa_eq (c : Config) (s : State) : daa c s.regs.a s.flags =
    (BitVec.ofNat 8 (adjusted c s),
      flagsOf (adjusted c s) (s.flags.cy || stage2Fires c s) (adjustedAc c s)) := by
  have hbyte : (BitVec.ofNat 8 (adjusted c s)).toNat = adjusted c s :=
    Nat.mod_eq_of_lt (Nat.mod_lt _ (by decide))
  rw [daa, daaStage1_eq, daaStage2_eq, Flags.zsp_toNat, hbyte]

theorem execWith_daa_eq_daaResult (c : Config) (s : State) : execWith c .daa s = daaResult c s := by
  have h : doDaa c (s.advance 1) = { s with
      pc := s.pc + 1
      regs := { s.regs with a := (daa c s.regs.a s.flags).1 }
      flags := (daa c s.regs.a s.flags).2 } := rfl
  rw [execWith_daa, complete, h, daa_eq]
  rfl

/-- Valid digits and clear carries: neither stage fires. -/
theorem adjusted_of_valid_digits {s : State} (hcy : s.flags.cy = false) (hac : s.flags.ac = false)
    (hlo : s.regs.a.toNat % 16 ≤ 9) (hhi : s.regs.a.toNat / 16 ≤ 9) (c : Config) :
    adjusted c s = s.regs.a.toNat ∧ stage2Fires c s = false := by
  have h1 : stage1Fires s = false := by simp [stage1Fires, hac, hlo]
  have hsum : stage1Sum c s = s.regs.a.toNat := by simp [stage1Sum, h1]
  have h2 : stage2Fires c s = false := by simp [stage2Fires, hsum, hcy, hhi]
  have hbyte : s.regs.a.toNat % 256 = s.regs.a.toNat := Nat.mod_eq_of_lt s.regs.a.isLt
  exact ⟨by simp only [adjusted, h2, hsum, hbyte, Bool.false_eq_true, if_false], h2⟩

/-- The source's example S1: both stages fire, 0x9B + 0x06 = 0xA1 and 0xA1 + 0x60 = 0x101. -/
theorem adjusted_of_9B {s : State} (ha : s.regs.a = 0x9B#8) :
    adjusted config s = 1 ∧ stage2Fires config s = true := by
  have h1 : stage1Fires s = true := by simp [stage1Fires, ha]
  have hsum : stage1Sum config s = 0xA1 := by simp [stage1Sum, h1, ha, config]
  have h2 : stage2Fires config s = true := by simp [stage2Fires, hsum]
  exact ⟨by simp [adjusted, h2, hsum], h2⟩

/-! ### Compare (R159 to R161) -/

theorem complete_aluApply_cmp (len : Nat) (v : Byte) (s : State) : complete len (aluApply .cmp v) s =
    .next { s with
      pc := s.pc + BitVec.ofNat 16 len
      flags := { flagsOf ((s.regs.a.toNat + 256 - v.toNat) % 256)
          (decide (s.regs.a.toNat < v.toNat)) (decide (s.regs.a.toNat < v.toNat)) with
        z := decide (s.regs.a.toNat = v.toNat) } } := by
  have hraw : aluRaw .cmp s.regs.a v s.flags.cy = s.regs.a.toNat - v.toNat := rfl
  have ha := s.regs.a.isLt
  have hv := v.isLt
  have hn : (BitVec.ofInt 8 ((s.regs.a.toNat : Int) - v.toNat)).toNat = (s.regs.a.toNat + 256 - v.toNat) % 256 := by
    rw [BitVec.toNat_ofInt]
    omega
  have hout : ((s.regs.a.toNat : Int) - v.toNat < 0 ∨ 255 < (s.regs.a.toNat : Int) - v.toNat) ↔
      s.regs.a.toNat < v.toNat := by omega
  have hz : s.regs.a.toNat = v.toNat ↔ (s.regs.a.toNat + 256 - v.toNat) % 256 = 0 := by omega
  have hflags : s.flags.arith ((s.regs.a.toNat : Int) - v.toNat) =
      flagsOf ((s.regs.a.toNat + 256 - v.toNat) % 256)
        (decide (s.regs.a.toNat < v.toNat)) (decide (s.regs.a.toNat < v.toNat)) := by
    rw [Flags.arith, Flags.zsp_eq_flagsOf, hn, ← decide_eq_decide.mpr hout]
  rw [decide_eq_decide.mpr hz]
  exact congrArg (fun f => Host.Outcome.next { s with pc := s.pc + BitVec.ofNat 16 len, flags := f }) hflags

/-! ### Rotates (R162 to R165): a byte put together from two bit fields is their sum -/

theorem toNat_append_eq_sum {m n : Nat} (x : BitVec m) (y : BitVec n) :
    (x ++ y).toNat = 2 ^ n * x.toNat + y.toNat := by
  rw [BitVec.toNat_append, ← Nat.shiftLeft_add_eq_or_of_lt y.isLt, Nat.shiftLeft_eq, Nat.mul_comm]

theorem toNat_ofBool_cy (s : State) : (BitVec.ofBool s.flags.cy).toNat = carryIn s := by
  rw [carryIn]
  cases s.flags.cy <;> rfl

theorem toNat_rlc (a : Byte) : (rlc a).1.toNat = 2 * a.toNat % 256 + a.toNat / 128 := by
  simp only [rlc, toNat_append_eq_sum, BitVec.extractLsb'_toNat, Nat.shiftRight_eq_div_pow]
  omega

theorem toNat_rrc (a : Byte) : (rrc a).1.toNat = a.toNat / 2 + 128 * (a.toNat % 2) := by
  simp only [rrc, toNat_append_eq_sum, BitVec.extractLsb'_toNat, Nat.shiftRight_eq_div_pow]
  omega

theorem toNat_ral (a : Byte) (s : State) : (ral a s.flags.cy).1.toNat = 2 * a.toNat % 256 + carryIn s := by
  simp only [ral, toNat_append_eq_sum, BitVec.extractLsb'_toNat, Nat.shiftRight_eq_div_pow, toNat_ofBool_cy]
  omega

theorem toNat_rar (a : Byte) (s : State) : (rar a s.flags.cy).1.toNat = a.toNat / 2 + 128 * carryIn s := by
  simp only [rar, toNat_append_eq_sum, BitVec.extractLsb'_toNat, Nat.shiftRight_eq_div_pow, toNat_ofBool_cy]
  omega

/-- RLC and RAL shift out the highest bit, RRC and RAR the lowest. -/
theorem getLsbD_seven (a : Byte) : a.getLsbD 7 = decide (128 ≤ a.toNat) := a.msb_eq_decide

theorem getLsbD_zero (a : Byte) : a.getLsbD 0 = decide (a.toNat % 2 = 1) := by
  rw [← BitVec.testBit_toNat, Nat.testBit_zero]

/-- What a rotate has to show: its byte and the bit it shifts out, as numbers. -/
theorem complete_putRotated {s : State} {result : Byte × Bool} {n : Nat} {out : Prop} [Decidable out]
    (hn : result.1.toNat = n) (hout : result.2 = decide out) :
    .next (putRotated result (s.advance 1)) = rotated s n out := by
  subst hn
  rw [rotated, BitVec.ofNat_toNat, BitVec.setWidth_eq, ← hout]
  rfl

/-! ### Complement (R166) -/

theorem complement_eq_ofNat (a : Byte) : ~~~a = BitVec.ofNat 8 (255 - a.toNat) := by
  apply BitVec.eq_of_toNat_eq
  have := a.isLt
  rw [BitVec.toNat_not, BitVec.toNat_ofNat]
  omega

end Sys2Proof.Machine

namespace Sys2Proof

open Machine Claims

/-- Settles O29: the two stages are those of `Claims` (`daaStage1_eq`, `daaStage2_eq`), under any parameters. -/
theorem decimalAdjustTwoStages : Obligations.DecimalAdjustTwoStages :=
  fun s => ⟨(execWith_config .daa s).symm.trans (execWith_daa_eq_daaResult config s),
    fun c => execWith_daa_eq_daaResult c s⟩

/-- Settles O30: stage 2 only ever sets CY; with valid digits neither stage fires, with 0x9B both do. -/
theorem decimalAdjustOfValidDigitsAndCarry : Obligations.DecimalAdjustOfValidDigitsAndCarry := by
  intro s
  refine ⟨_, (decimalAdjustTwoStages s).1, fun hcy => ?_, fun hcy hac hlo hhi => ?_, fun _ _ ha => ?_⟩
  · simp [hcy, flagsOf]
  · obtain ⟨hadj, h2⟩ := adjusted_of_valid_digits hcy hac hlo hhi config
    simp [hadj, h2, hcy, flagsOf]
  · obtain ⟨hadj, h2⟩ := adjusted_of_9B ha
    simp [hadj, h2, flagsOf]

/-- Settles O32: compare is the subtraction whose result is dropped, in each of its forms. -/
theorem compareSetsFlagsOnly : Obligations.CompareSetsFlagsOnly := by
  refine ⟨fun src s => ?_, fun d8 s => (exec_aluImm .cmp d8 s).trans (complete_aluApply_cmp 2 d8 s)⟩
  rw [exec_alu_eq_aluApply, operand_eq_readSrc]
  exact complete_aluApply_cmp 1 (s.readSrc src) s

/-- Settles O33: each rotate puts its byte together from two fields of A or from one and CY. -/
theorem rotatesAsArithmetic : Obligations.RotatesAsArithmetic :=
  fun s => ⟨(exec_rlc s).trans (complete_putRotated (toNat_rlc _) (getLsbD_seven _)),
    (exec_rrc s).trans (complete_putRotated (toNat_rrc _) (getLsbD_zero _)),
    (exec_ral s).trans (complete_putRotated (toNat_ral _ s) (getLsbD_seven _)),
    (exec_rar s).trans (complete_putRotated (toNat_rar _ s) (getLsbD_zero _))⟩

/-- Settles O34: CMA's bitwise complement is 255 - A. -/
theorem complementAndCarryInstructions : Obligations.ComplementAndCarryInstructions :=
  fun s => ⟨(exec_cma s).trans
      (congrArg (fun v => Host.Outcome.next ((s.advance 1).setReg .a v)) (complement_eq_ofNat _)),
    exec_cmc s, exec_stc s⟩

end Sys2Proof
end

section
/-! PROOFS. Registers, the state after creation, and the port instructions (R20, R22, R43 of 10_state.md, R236, R237 of 44_stack_io_control.md, R272 of 60_exceptions.md). -/

namespace Sys2Proof.Machine

open Claims

/-! ### The input byte (R272) -/

theorem State.getLsbD_inputByte (c : Config) (s : State) (i : Nat) :
    (s.inputByte c).getLsbD i = (s.buttons.getLsbD i || c.inputFixedMask.getLsbD i) :=
  BitVec.getLsbD_or

theorem config_inputFixedMask : config.inputFixedMask = bitAt true 3 := by
  decide

theorem State.toNat_inputByte_config {s : State} (h : s.buttons.getLsbD 3 = false) :
    (s.inputByte config).toNat = s.buttons.toNat + 8 := by
  rw [State.inputByte, config_inputFixedMask, toNat_or_bitAt true (by decide) h]
  rfl

/-! ### IN and OUT -/

theorem State.portIn_eq (c : Config) (s : State) (p : Byte) : s.portIn c p =
    if p = c.portInInputs then s.buttons ||| c.inputFixedMask
    else if p = c.portInShift then BitVec.ofNat 8 ((256 * s.shHi.toNat + s.shLo.toNat) / 2 ^ (8 - s.shOff.toNat))
    else 0#8 := by
  rw [State.portIn, State.shiftOut, Nat.shiftRight_eq_div_pow, Nat.mul_comm]
  rfl

theorem execWith_inPort_eq_inResult (c : Config) (p8 : Byte) (s : State) :
    execWith c (.inPort p8) s = inResult c p8 s := by
  rw [execWith_inPort, complete, doIn, State.portIn_eq]
  rfl

/-- The branches of `State.portOut` are those of `outResult`. -/
theorem execWith_outPort_eq_outResult (c : Config) (p8 : Byte) (s : State) :
    execWith c (.outPort p8) s = outResult c p8 s := rfl

end Sys2Proof.Machine

namespace Sys2Proof

open Machine

/-- Settles O9: the state after creation is written out in the model. -/
theorem resetStateIsZeroed : Obligations.ResetStateIsZeroed :=
  ⟨fun c => ⟨fun r => by cases r <;> rfl, rfl, rfl, rfl, rfl, rfl, rfl, rfl, State.created_read c⟩, rfl⟩

/-- Settles O21: `Regs.get_set` for one register; a pair is read and written through its two registers (R22). -/
theorem registersAreIndependent : Obligations.RegistersAreIndependent :=
  ⟨fun x r r' v => x.get_set r v r', fun _ => ⟨rfl, rfl, rfl, rfl⟩, fun _ _ => ⟨rfl, rfl, rfl⟩⟩

/-- Settles O44: under any parameters by the port number, and under the defaults `execWith config` is `exec`. -/
theorem inAndOutInstructions : Obligations.InAndOutInstructions :=
  fun p8 s => ⟨(execWith_config (.inPort p8) s).symm.trans (execWith_inPort_eq_inResult config p8 s),
    (execWith_config (.outPort p8) s).symm.trans (execWith_outPort_eq_outResult config p8 s),
    fun c => ⟨execWith_inPort_eq_inResult c p8 s, execWith_outPort_eq_outResult c p8 s⟩⟩

/-- Settles O48: the byte is an OR, and the default mask is bit 3 alone (D14). -/
theorem inputByteHasItsFixedBit : Obligations.InputByteHasItsFixedBit := by
  refine ⟨State.getLsbD_inputByte, fun s => ⟨?_, State.toNat_inputByte_config⟩⟩
  rw [State.getLsbD_inputByte, config_inputFixedMask, getLsbD_bitAt true (by decide)]
  exact Bool.or_true _

end Sys2Proof
end

section
/-! PROOFS. The row a step runs, and what it reports for it (R7 of 00_scope.md, R70 of 30_encoding.md, R300, R301 of 70_reset_and_hazards.md). -/

namespace Sys2Proof

open Claims

/-! ### The condition an opcode names (R75) -/

theorem opCond_mkJcc (k : Cond) (a16 : Word) : opCond (Instr.mkJcc k a16).opcode = some k := by
  rw [Machine.opcode_mkJcc]
  cases k <;> rfl

theorem opCond_mkCcc (k : Cond) (a16 : Word) : opCond (Instr.mkCcc k a16).opcode = some k := by
  rw [Machine.opcode_mkCcc]
  cases k <;> rfl

theorem opCond_mkRcc (k : Cond) : opCond (Instr.mkRcc k).opcode = some k := by
  cases k <;> rfl

theorem wellFormed_mkJcc (k : Cond) (a16 : Word) : (Instr.mkJcc k a16).wellFormed = true := by
  cases k <;> rfl

theorem wellFormed_mkCcc (k : Cond) (a16 : Word) : (Instr.mkCcc k a16).wellFormed = true := by
  cases k <;> rfl

theorem wellFormed_mkRcc (k : Cond) : (Instr.mkRcc k).wellFormed = true := by
  cases k <;> rfl

theorem opCond_of_opcode {i : Instr} {op : Byte} (h : i.opcode = op) (hop : opCond op = none) :
    opCond i.opcode = none := by
  rw [h, hop]

/-- Form by form: a row is conditional, or its opcode names no condition. -/
theorem opCond_of_not_conditional {i : Instr} : ¬ Conditional i → opCond i.opcode = none := by
  revert i
  apply Instr.by_form
  case jcc | ccc | rcc =>
    intros
    rename_i hno
    exact absurd (by simp [Conditional]) hno
  case unimplemented =>
    intro i op hop _
    cases i <;> cases hop <;> rfl
  case mov => rintro ⟨⟩ ⟨⟩ - <;> rfl
  case alu => rintro ⟨⟩ (⟨⟨⟩⟩ | _) - <;> rfl
  case mvi => rintro (⟨⟨⟩⟩ | _) d8 - <;> exact opCond_of_opcode List.headD_cons rfl
  case inr | dcr => rintro (⟨⟨⟩⟩ | _) - <;> rfl
  case lxi | aluImm => rintro ⟨⟩ d - <;> exact opCond_of_opcode List.headD_cons rfl
  case movFromM | movToM | ldax | stax | inx | dcx | dad | push | pop => rintro ⟨⟩ - <;> rfl
  case rst =>
    intro n _
    fin_cases n <;> rfl
  case lda | sta | lhld | shld | jmp | call | inPort | outPort =>
    exact fun _ _ => opCond_of_opcode List.headD_cons rfl
  case xchg | daa | rlc | rrc | ral | rar | cma | cmc | stc | ret | pchl | pushPsw | popPsw | xthl | sphl | ei | di
    | hlt | nop => exact fun _ => rfl

end Sys2Proof

namespace Sys2Proof.Machine

open Claims

theorem State.taken_of_opCond {s : State} {op : Byte} {k : Cond} (h : opCond op = some k) :
    s.taken op = holds s k := by
  rw [State.taken, h]
  exact cond_eq_holds s k

/-- An instruction outside `UNIMPL_SET` reports its entry of `CYCLES`. -/
theorem State.report_of_wellFormed {c : Config} {s : State} (hset : c.unimplSet.contains (s.read s.pc) = false)
    (hwf : s.fetched.wellFormed = true) : s.report c =
      if s.fetched = .hlt then .halt (c.cycles s.fetched.opcode (s.taken s.fetched.opcode))
      else .ok (c.cycles s.fetched.opcode (s.taken s.fetched.opcode)) := by
  rw [State.report, s.faults_of_wellFormed c hwf, hset, State.cost, State.fetch_opcode, s.opcode_fetched]
  rfl

theorem State.report_of_opCond_none {c : Config} {s : State} (hset : c.unimplSet.contains (s.read s.pc) = false)
    (hwf : s.fetched.wellFormed = true) (hk : opCond s.fetched.opcode = none) : s.report c =
      if s.fetched = .hlt then .halt (c.cycles s.fetched.opcode true) else .ok (c.cycles s.fetched.opcode true) := by
  have htaken : s.taken s.fetched.opcode = true := by rw [State.taken, hk]
  rw [State.report_of_wellFormed hset hwf, htaken]

theorem State.report_of_opCond_some {c : Config} {s : State} {k : Cond}
    (hset : c.unimplSet.contains (s.read s.pc) = false) (hwf : s.fetched.wellFormed = true)
    (hk : opCond s.fetched.opcode = some k) : s.report c = .ok (c.cycles s.fetched.opcode (holds s k)) := by
  have hne : s.fetched ≠ .hlt := by
    intro e
    rw [e] at hk
    cases hk
  rw [State.report_of_wellFormed hset hwf, if_neg hne, State.taken_of_opCond hk]

/-- Under the defaults no instruction stands in `UNIMPL_SET` (R79). -/
theorem State.not_in_default_unimplSet {s : State} (hwf : s.fetched.wellFormed = true) :
    config.unimplSet.contains (s.read s.pc) = false := by
  rw [Instr.wellFormed_eq_not_contains, s.opcode_fetched, Bool.not_eq_true'] at hwf
  exact hwf

theorem State.report_config_of_opCond_some {s : State} {i : Instr} {k : Cond} {n : Nat} (hf : s.fetched = i)
    (hwf : i.wellFormed = true) (hk : opCond i.opcode = some k) (hn : config.cycles i.opcode (holds s k) = n) :
    s.report config = .ok n := by
  subst hf hn
  exact State.report_of_opCond_some (State.not_in_default_unimplSet hwf) hwf hk

theorem State.report_config_of_opCond_none {s : State} {i : Instr} {n : Nat} (hf : s.fetched = i)
    (hwf : i.wellFormed = true) (hk : opCond i.opcode = none) (hn : config.cycles i.opcode true = n) :
    s.report config = if i = .hlt then .halt n else .ok n := by
  subst hf hn
  exact State.report_of_opCond_none (State.not_in_default_unimplSet hwf) hwf hk

theorem config_cycles_mkJcc (k : Cond) (a16 : Word) (taken : Bool) :
    config.cycles (Instr.mkJcc k a16).opcode taken = 10 := by
  rw [opcode_mkJcc]
  cases k <;> exact config_cycles_of_fixed ⟨rfl, rfl⟩ taken

/-! ### The row a step runs -/

theorem State.fetched_of_decode {s : State} {i : Instr} {rest : List Byte}
    (h : decode [s.read s.pc, s.read (s.pc + 1), s.read (s.pc + 2)] = .ok (i, rest)) : s.fetched = i := by
  rw [decode] at h
  split at h
  · cases h
  · cases h
    rfl

theorem fetchExecute_of_not_contains {c : Config} {s : State}
    (hset : c.unimplSet.contains (s.read s.pc) = false) : fetchExecute c s = execWith c s.fetched s := by
  obtain ⟨hin, _⟩ | ⟨_, e⟩ := fetchExecute_cases c s
  · cases hset.symm.trans hin
  · exact e

theorem step_eq_exec_fetched {s : State} (hwf : s.fetched.wellFormed = true) : step s = exec s.fetched s :=
  (fetchExecute_of_not_contains (State.not_in_default_unimplSet hwf)).trans (execWith_config s.fetched s)

end Sys2Proof.Machine

namespace Sys2Proof

open Machine

/-- Settles O4: each word is the encoding of its row, so this is the round trip `decode_encode_append`. -/
theorem sampleWordsDecodeAsTheMapSays : Obligations.SampleWordsDecodeAsTheMapSays :=
  ⟨decode_encode_append .movBC [], decode_encode_append (.lxiH 0x1234#16) [], decode_encode_append .adcL [],
    decode_encode_append (.cpi 0x40#8) [], decode_encode_append .rar [], decode_encode_append (.cz 0x0200#16) [],
    decode_encode_append .rst2 [], decode_encode_append .pushPsw [], decode_encode_append (.inPort 0x03#8) [],
    decode_encode_append .hlt [], decode_encode_append .unimplemented08 []⟩

/-- Settles O5: the decoded row is the fetched one, and a byte outside `UNIMPL_SET` runs it. -/
theorem stepIsExecOfTheDecodedInstruction : Obligations.StepIsExecOfTheDecodedInstruction := by
  refine ⟨fun s i rest h hwf => ?_, fun c s i rest h hset => ?_, execWith_config, fun _ => rfl⟩
  · obtain rfl := State.fetched_of_decode h
    exact step_eq_exec_fetched hwf
  · obtain rfl := State.fetched_of_decode h
    exact fetchExecute_of_not_contains hset

/-- Settles O59: the cost is the entry of the opcode at the truth of the condition it names, if any. -/
theorem costOfConditionalInstructions : Obligations.CostOfConditionalInstructions := by
  intro k a16 s
  refine ⟨fun h => State.report_config_of_opCond_some h (wellFormed_mkCcc k a16) (opCond_mkCcc k a16)
      (config_cycles_mkCcc k a16 _),
    fun h => State.report_config_of_opCond_some h (wellFormed_mkRcc k) (opCond_mkRcc k) (config_cycles_mkRcc k _),
    fun h => State.report_config_of_opCond_some h (wellFormed_mkJcc k a16) (opCond_mkJcc k a16)
      (config_cycles_mkJcc k a16 _),
    fun h => State.report_config_of_opCond_none h rfl (opCond_of_opcode List.headD_cons rfl)
      (config_cycles_of_fixed (op := 0xCD) ⟨rfl, rfl⟩ true),
    fun h => State.report_config_of_opCond_none h rfl rfl (config_cycles_of_fixed ⟨rfl, rfl⟩ true),
    fun h => State.report_config_of_opCond_none h rfl (opCond_of_opcode List.headD_cons rfl)
      (config_cycles_of_fixed (op := 0xC3) ⟨rfl, rfl⟩ true),
    fun h => State.report_config_of_opCond_none h rfl rfl (config_cycles_of_fixed ⟨rfl, rfl⟩ true),
    fun c hset hwf => ⟨fun hno => State.report_of_opCond_none hset hwf (opCond_of_not_conditional hno), fun h => ?_⟩⟩
  refine State.report_of_opCond_some hset hwf ?_
  obtain h | h | h := h
  · rw [h, opCond_mkJcc]
  · rw [h, opCond_mkCcc]
  · rw [h, opCond_mkRcc]

end Sys2Proof
end
